-- ==== Sys2Proof/Word.lean ====
section
/-! DEFINITION. The words of the block (rules R7, R10): every value is unsigned; bit 0 is the least significant bit. -/

namespace Sys2Proof

/-- A byte: every wire transfer and every shadow digit (R10, R59). -/
abbrev Byte := BitVec 8

/-- A U16 operand (R92). -/
abbrev Half := BitVec 16

/-- A 7-bit segment pattern, segment a in bit 0 and g in bit 6 (R99, R140). -/
abbrev Pattern := BitVec 7

/-- A far-end slot number, 0..15 (R54). -/
abbrev Slot := BitVec 4

/-- A physical position, 0..7: one entry of the digit map (R28). -/
abbrev Position := BitVec 3

/-- A brightness level (R27). -/
abbrev Level := BitVec 3

/-- A configured count, 0..8 (R24 to R26). -/
abbrev Count := Fin 9

/-- The index of a shadow digit, an LED or a map entry, 0..7 (R50). -/
abbrev Index := Fin 8

end Sys2Proof
end

