-- ==== Sys2Proof/Config.lean ====
section
/-! DEFINITION. What the source fixes for every block (rule R7) and the free values it leaves open (rules R8, R9, R13, R35). An opaque constant has no body: nothing can be proved of its value. -/

namespace Sys2Proof.Config

/-- R7 MAX_DIGITS. -/
def maxDigits : Nat := 8
/-- R7 MAX_LEDS. -/
def maxLeds : Nat := 8
/-- R7 MAX_BUTTONS. -/
def maxButtons : Nat := 8
/-- R7 SEG_TABLE_SIZE. -/
def segTableSize : Nat := 47
/-- R7 BLANK_INDEX. -/
def blankIndex : Nat := 32
/-- R7 KEY_SCAN_BYTES. -/
def keyScanBytes : Nat := 4
/-- R7 BRIGHT_BITS: the width of the brightness level. -/
def brightBits : Nat := 3
/-- R7 BASE_ADDR: the wire address byte of slot 0. -/
abbrev baseAddr : Byte := 0xC0#8

/-- The operands of the source's `begin` that have defaults, in the order of R93. -/
structure BeginDefaults where
  numButtons : Byte
  numLeds    : Byte
  numDigits  : Byte
  brightness : Byte
  deriving DecidableEq, Repr

/-- R7 API defaults. Documented only: the block applies none of them, and a host that wants them sends them (R91). -/
def apiDefaults : BeginDefaults := ⟨8#8, 8#8, 8#8, 2#8⟩

/-- R8, R140 P5: the reference value of SEG_SINGLE_BASE. -/
def segSingleBaseReference : Nat := 40

/-- R8 KEY_SCAN_ORACLE: the byte the far end supplies to the n-th read since reset (R13, R56). Free value, log 6. -/
opaque keyScanByte : Nat → Byte

/-- R8 SEG_TABLE: the pattern of a table entry that P2 and P5 of R140 do not fix. Free value, log 7. -/
opaque segPattern : Nat → Pattern

/-- R8 SEG_SINGLE_BASE as the source leaves it; `segSingleBase` keeps it within what R140 allows. Free value, log 7. -/
opaque segSingleBaseFree : Nat

/-- The three lines of the bus (R111). -/
inductive Pin where
  | stb
  | clk
  | dio
  deriving DecidableEq, Repr

/-- R8 PIN_LEVEL_INIT: the level of a line before the first `Stop` (R35, D7), true for high. Free value, log 8. -/
opaque pinLevelInit : Pin → Bool

/-- R9 CLK_PROTOCOL: which edge transfers a bit, the clock's idle level, the bit period. -/
structure ClkProtocol where
  risingEdge : Bool
  idleHigh   : Bool
  period     : Nat
  deriving DecidableEq, Repr, Inhabited

/-- R9: the source gives nothing of it (D6). Free value, log 8. -/
opaque clkProtocol : ClkProtocol

end Sys2Proof.Config
end

