-- ==== Sys2Proof/Syntax.lean ====
section
/-! DEFINITION. The instructions: the thirty host requests of rule R93 and the six wire commands of rule R96, one constructor for each row of spec/opcode_table.json. -/

namespace Sys2Proof

/-- What a frame carries between its `Start` and its `Stop` (R71): the bytes sent, in order, and how many bytes were read. -/
structure Frame where
  sent  : List Byte
  reads : Nat
  deriving DecidableEq, Repr, Inhabited

/-- A frame, or the tail of one, that carries nothing. -/
def Frame.empty : Frame := ⟨[], 0⟩

/-- An instruction. A host request carries its operands in the order of R93. A wire command carries the fields of its byte and the TAIL of the frame it opens: the bytes sent after it and the number of reads in the frame (R71). -/
inductive Instr where
  | tStart
  | tStop
  | tWrbyte (b : Byte)
  | tRdbyte
  | tWrcmd (b : Byte)
  | tDioIn
  | tDioOut
  | sEncode (idx : Byte)
  | sRawenc (bits : Byte)
  | rSetdig (i b : Byte)
  | rGetdig (i : Byte)
  | rSetdp (i : Byte) (on : Bool)
  | rSetled (i : Byte) (on : Bool)
  | rGetledm
  | rPhys (l : Byte)
  | beginId (nb nl nd br : Byte)
  | beginMap (nb nl nd br : Byte) (map : List Byte)
  | displayOff
  | clear
  | setBrightness (level : Byte)
  | test (enable : Bool)
  | showByteBinary (v : Byte) (lsbFirst : Bool)
  | showChar (d v : Byte) (raw : Bool)
  | showInt8 (d v : Byte) (decimal : Bool)
  | showInt12 (d : Byte) (v : Half) (decimal : Bool)
  | showInt16 (d : Byte) (v : Half) (decimal : Bool)
  | showLedsBinary (v : Byte) (lsbFirst : Bool)
  | setLed (i : Byte) (on : Bool)
  | setDp (d : Byte) (on : Bool)
  | readButtons
  | wDataAuto (tail : Frame)
  | wDataRead (tail : Frame)
  | wDataFixed (tail : Frame)
  | wDispOff (tail : Frame)
  | wDispOn (b : Level) (tail : Frame)
  | wAddr (s : Slot) (tail : Frame)
  deriving DecidableEq, Repr

end Sys2Proof
end

