-- ==== Sys2Proof/WellFormed.lean ====
section
/-! DEFINITION. Which terms of `Instr` stand for words: every operand kind of rule R92 is exact by its type but MAP8, which is eight bytes. -/

namespace Sys2Proof

/-- R92: a MAP8 operand is eight bytes. Whether it is a permutation is BEGIN_MAP's own check (R172), not a matter of form. -/
def Instr.wf : Instr → Bool
  | .beginMap _ _ _ _ map => map.length == 8
  | .tStart | .tStop | .tWrbyte _ | .tRdbyte | .tWrcmd _ | .tDioIn | .tDioOut => true
  | .sEncode _ | .sRawenc _ => true
  | .rSetdig _ _ | .rGetdig _ | .rSetdp _ _ | .rSetled _ _ | .rGetledm | .rPhys _ => true
  | .beginId _ _ _ _ | .displayOff | .clear | .setBrightness _ | .test _ => true
  | .showByteBinary _ _ | .showChar _ _ _ | .showInt8 _ _ _ | .showInt12 _ _ _ | .showInt16 _ _ _ => true
  | .showLedsBinary _ _ | .setLed _ _ | .setDp _ _ | .readButtons => true
  | .wDataAuto _ | .wDataRead _ | .wDataFixed _ | .wDispOff _ | .wDispOn _ _ | .wAddr _ _ => true

end Sys2Proof
end

