-- ==== Sys2Proof/Decode.lean ====
section
/-! DEFINITION. The host request encoding (rules R90 to R95) and the wire encoding (rules R96 to R98): the decoders, total on any bytes, and after them the encoders. -/

namespace Sys2Proof

/-! ### Operand kinds (R92) -/

/-- BOOL: 0x00 is false, 0x01 is true, anything else is no BOOL (D3). -/
def boolOperand (x : Byte) : Option Bool :=
  if x = 0x00#8 then some false else if x = 0x01#8 then some true else none

/-- U16: `lo + 256*hi`, low byte first (D4). -/
def u16Operand (lo hi : Byte) : Half := BitVec.ofNat 16 (lo.toNat + 256 * hi.toNat)

/-! ### Host requests -/

/-- What a request stream begins with (R94, R95): a complete request and the bytes after it; an unassigned opcode; a complete request with an invalid BOOL; or too few bytes. -/
inductive Decoded where
  | request (i : Instr) (rest : List Byte)
  | illegalRequest (op : Byte) (rest : List Byte)
  | illegalOperand (bytes rest : List Byte)
  | incomplete
  deriving DecidableEq, Repr

/-- Format OP_U8 of the opcode table. -/
def operandU8 (k : Byte → Instr) : List Byte → Decoded
  | a :: rest => .request (k a) rest
  | [] => .incomplete

/-- Format OP_U8_U8. -/
def operandU8U8 (k : Byte → Byte → Instr) : List Byte → Decoded
  | a :: b :: rest => .request (k a b) rest
  | _ => .incomplete

/-- Format OP_BOOL. -/
def operandBool (op : Byte) (k : Bool → Instr) : List Byte → Decoded
  | x :: rest =>
    match boolOperand x with
    | some f => .request (k f) rest
    | none => .illegalOperand [op, x] rest
  | [] => .incomplete

/-- Format OP_U8_BOOL. -/
def operandU8Bool (op : Byte) (k : Byte → Bool → Instr) : List Byte → Decoded
  | a :: x :: rest =>
    match boolOperand x with
    | some f => .request (k a f) rest
    | none => .illegalOperand [op, a, x] rest
  | _ => .incomplete

/-- Format OP_U8_U8_BOOL. -/
def operandU8U8Bool (op : Byte) (k : Byte → Byte → Bool → Instr) : List Byte → Decoded
  | a :: b :: x :: rest =>
    match boolOperand x with
    | some f => .request (k a b f) rest
    | none => .illegalOperand [op, a, b, x] rest
  | _ => .incomplete

/-- Format OP_U8_U16_BOOL. -/
def operandU8U16Bool (op : Byte) (k : Byte → Half → Bool → Instr) : List Byte → Decoded
  | a :: lo :: hi :: x :: rest =>
    match boolOperand x with
    | some f => .request (k a (u16Operand lo hi) f) rest
    | none => .illegalOperand [op, a, lo, hi, x] rest
  | _ => .incomplete

/-- Format OP_U8_U8_U8_U8. -/
def operandU8x4 (k : Byte → Byte → Byte → Byte → Instr) : List Byte → Decoded
  | a :: b :: c :: d :: rest => .request (k a b c d) rest
  | _ => .incomplete

/-- Format OP_U8_U8_U8_U8_MAP8: entry l of the map is its byte l. -/
def operandU8x4Map (k : Byte → Byte → Byte → Byte → List Byte → Instr) : List Byte → Decoded
  | a :: b :: c :: d :: m0 :: m1 :: m2 :: m3 :: m4 :: m5 :: m6 :: m7 :: rest =>
    .request (k a b c d [m0, m1, m2, m3, m4, m5, m6, m7]) rest
  | _ => .incomplete

/-- The operands and the request of one opcode byte: the opcode map of R93. Every byte outside it is unassigned (R94). -/
def decodeOpcode (op : Byte) (rest : List Byte) : Decoded :=
  match op.toNat with
  | 0x01 => .request .tStart rest
  | 0x02 => .request .tStop rest
  | 0x03 => operandU8 .tWrbyte rest
  | 0x04 => .request .tRdbyte rest
  | 0x05 => operandU8 .tWrcmd rest
  | 0x06 => .request .tDioIn rest
  | 0x07 => .request .tDioOut rest
  | 0x10 => operandU8 .sEncode rest
  | 0x11 => operandU8 .sRawenc rest
  | 0x20 => operandU8U8 .rSetdig rest
  | 0x21 => operandU8 .rGetdig rest
  | 0x22 => operandU8Bool op .rSetdp rest
  | 0x23 => operandU8Bool op .rSetled rest
  | 0x24 => .request .rGetledm rest
  | 0x25 => operandU8 .rPhys rest
  | 0x30 => operandU8x4 .beginId rest
  | 0x31 => operandU8x4Map .beginMap rest
  | 0x32 => .request .displayOff rest
  | 0x33 => .request .clear rest
  | 0x34 => operandU8 .setBrightness rest
  | 0x35 => operandBool op .test rest
  | 0x36 => operandU8Bool op .showByteBinary rest
  | 0x37 => operandU8U8Bool op .showChar rest
  | 0x38 => operandU8U8Bool op .showInt8 rest
  | 0x39 => operandU8U16Bool op .showInt12 rest
  | 0x3A => operandU8U16Bool op .showInt16 rest
  | 0x3B => operandU8Bool op .showLedsBinary rest
  | 0x3C => operandU8Bool op .setLed rest
  | 0x3D => operandU8Bool op .setDp rest
  | 0x3E => .request .readButtons rest
  | _ => .illegalRequest op rest

/-- R95: the first request of a stream. -/
def decodeRequest : List Byte → Decoded
  | [] => .incomplete
  | op :: rest => decodeOpcode op rest

/-! ### Wire commands -/

/-- The commands of R96 with the fields of their bytes (R97, R98). -/
inductive WireCmd where
  | dataAuto
  | dataRead
  | dataFixed
  | dispOff
  | dispOn (b : Level)
  | addr (s : Slot)
  deriving DecidableEq, Repr

/-- R71: the class of a frame by its first byte sent; none for "any other". -/
def classify (c : Byte) : Option WireCmd :=
  if c = 0x40#8 then some .dataAuto
  else if c = 0x42#8 then some .dataRead
  else if c = 0x44#8 then some .dataFixed
  else if c = 0x80#8 then some .dispOff
  else if c >>> 3 = 0b10001#8 then some (.dispOn (c.setWidth 3))
  else if c >>> 4 = 0b1100#8 then some (.addr (c.setWidth 4))
  else none

/-- The instruction of a wire command whose frame goes on with `tail`. -/
def WireCmd.instr (tail : Frame) : WireCmd → Instr
  | .dataAuto => .wDataAuto tail
  | .dataRead => .wDataRead tail
  | .dataFixed => .wDataFixed tail
  | .dispOff => .wDispOff tail
  | .dispOn b => .wDispOn b tail
  | .addr s => .wAddr s tail

/-- The wire command a frame opens with; none for an empty frame and for an unknown first byte. -/
def decodeFrame (f : Frame) : Option Instr :=
  match f.sent with
  | [] => none
  | c :: rest => (classify c).map (WireCmd.instr ⟨rest, f.reads⟩)

/-! ### Encoders -/

/-- The byte of a wire command (R96 to R98). -/
def WireCmd.byte : WireCmd → Byte
  | .dataAuto => 0x40#8
  | .dataRead => 0x42#8
  | .dataFixed => 0x44#8
  | .dispOff => 0x80#8
  | .dispOn b => 0x88#8 ||| b.setWidth 8
  | .addr s => Config.baseAddr ||| s.setWidth 8

/-- A BOOL operand byte. -/
def boolByte (f : Bool) : Byte := if f then 0x01#8 else 0x00#8

/-- The low byte of a U16 operand. -/
def lowByte (v : Half) : Byte := v.setWidth 8

/-- The high byte of a U16 operand. -/
def highByte (v : Half) : Byte := (v >>> 8).setWidth 8

/-- Words in the two encodings: the bytes of a host request, or a frame on the wire. -/
inductive Code where
  | request (bytes : List Byte)
  | frame (f : Frame)
  deriving DecidableEq, Repr

/-- The bytes of a word. -/
def Code.bytes : Code → List Byte
  | .request bytes => bytes
  | .frame f => f.sent

/-- The frame a wire command opens. -/
def frameCode (c : WireCmd) (tail : Frame) : Code := .frame ⟨c.byte :: tail.sent, tail.reads⟩

/-- The words of an instruction, from the opcode map (R93) and the wire command bytes (R96). -/
def encode : Instr → Code
  | .tStart => .request [0x01#8]
  | .tStop => .request [0x02#8]
  | .tWrbyte b => .request [0x03#8, b]
  | .tRdbyte => .request [0x04#8]
  | .tWrcmd b => .request [0x05#8, b]
  | .tDioIn => .request [0x06#8]
  | .tDioOut => .request [0x07#8]
  | .sEncode idx => .request [0x10#8, idx]
  | .sRawenc bits => .request [0x11#8, bits]
  | .rSetdig i b => .request [0x20#8, i, b]
  | .rGetdig i => .request [0x21#8, i]
  | .rSetdp i on => .request [0x22#8, i, boolByte on]
  | .rSetled i on => .request [0x23#8, i, boolByte on]
  | .rGetledm => .request [0x24#8]
  | .rPhys l => .request [0x25#8, l]
  | .beginId nb nl nd br => .request [0x30#8, nb, nl, nd, br]
  | .beginMap nb nl nd br map => .request ([0x31#8, nb, nl, nd, br] ++ map)
  | .displayOff => .request [0x32#8]
  | .clear => .request [0x33#8]
  | .setBrightness level => .request [0x34#8, level]
  | .test enable => .request [0x35#8, boolByte enable]
  | .showByteBinary v lsbFirst => .request [0x36#8, v, boolByte lsbFirst]
  | .showChar d v raw => .request [0x37#8, d, v, boolByte raw]
  | .showInt8 d v decimal => .request [0x38#8, d, v, boolByte decimal]
  | .showInt12 d v decimal => .request [0x39#8, d, lowByte v, highByte v, boolByte decimal]
  | .showInt16 d v decimal => .request [0x3A#8, d, lowByte v, highByte v, boolByte decimal]
  | .showLedsBinary v lsbFirst => .request [0x3B#8, v, boolByte lsbFirst]
  | .setLed i on => .request [0x3C#8, i, boolByte on]
  | .setDp d on => .request [0x3D#8, d, boolByte on]
  | .readButtons => .request [0x3E#8]
  | .wDataAuto tail => frameCode .dataAuto tail
  | .wDataRead tail => frameCode .dataRead tail
  | .wDataFixed tail => frameCode .dataFixed tail
  | .wDispOff tail => frameCode .dispOff tail
  | .wDispOn b tail => frameCode (.dispOn b) tail
  | .wAddr s tail => frameCode (.addr s) tail

/-- The instruction that a word is, with nothing left over. -/
def decodeCode : Code → Option Instr
  | .request bytes =>
    match decodeRequest bytes with
    | .request i [] => some i
    | _ => none
  | .frame f => decodeFrame f

/-! ### Words as the opcode table numbers them -/

/-- The longest request, BEGIN_MAP (R93). -/
def maxRequestBytes : Nat := 13

/-- The bytes of a table word, the first one in bits 7..0, zeros above `nbits`. -/
def wordBytes (nbits w : Nat) : List Byte :=
  (List.range maxRequestBytes).map fun k => BitVec.ofNat 8 ((w % 2 ^ nbits) / 2 ^ (8 * k))

/-- The table word as a frame on the wire: the bytes the table gives it, nothing read. -/
def wordFrame (nbits w : Nat) : Frame := ⟨(wordBytes nbits w).take ((nbits + 7) / 8), 0⟩

/-- The instruction of a table word. The opcode map ends at 0x3E and every wire command is 0x40 or more, so no byte belongs to both encodings (log 2). -/
def decodeTableWord (nbits w : Nat) : Option Instr :=
  match decodeRequest (wordBytes nbits w) with
  | .request i _ => some i
  | .illegalRequest _ _ => decodeFrame (wordFrame nbits w)
  | .illegalOperand _ _ => none
  | .incomplete => none

end Sys2Proof
end

