-- ==== Sys2Proof/Machine/State.lean ====
section
/-! DEFINITION. The state of the block (rules R20 to R41) and of the far end's reference reading (rules R70, R80), the reasons a step stops, and reset (rules R39, R260). -/

namespace Sys2Proof.Machine

/-- R232: the fault codes, in the order of their numbers. -/
inductive FaultCode where
  | illegalRequest
  | illegalOperand
  | notInitialized
  | indexRange
  | dmapInvalid
  | frameNest
  | noFrame
  | dirMismatch
  deriving DecidableEq, Repr

/-- R232, column "code". -/
def FaultCode.number : FaultCode → Nat
  | .illegalRequest => 1
  | .illegalOperand => 2
  | .notInitialized => 3
  | .indexRange => 4
  | .dmapInvalid => 5
  | .frameNest => 6
  | .noFrame => 7
  | .dirMismatch => 8

/-- Why the machine stops. -/
inductive Fault where
  /-- R234: FAULT holds code `c`, so the block takes no further step and every request is refused without effect. Raised by step, when the far end has no frame left to read, and by every host request. Safe: the state it leaves out is the unchanged one. -/
  | latched (c : FaultCode)
  deriving DecidableEq, Repr

/-- Why an instruction has no meaning. -/
inductive Refusal where
  /-- An instruction without a meaning yet, by its mnemonic. Raised by no arm of exec now. Safe. -/
  | notModelled (mnemonic : String)
  deriving DecidableEq, Repr

/-- R34: the direction of the data line. -/
inductive Dir where
  | out
  | in_
  deriving DecidableEq, Repr

/-- R111: the wire events. -/
inductive Event where
  | start
  | stop
  | tx (b : Byte)
  | rx (b : Byte)
  | dirIn
  | dirOut
  deriving DecidableEq, Repr

/-- R232: what a fault records: its code and the bytes of the request that raised it (log 4). -/
structure FaultRecord where
  code    : FaultCode
  request : List Byte
  deriving DecidableEq, Repr

/-- A part of the far-end reading: known, or unknown as R78 and R80 say of it (log 13). -/
inductive Known (α : Type) where
  | unknown
  | known (a : α)
  deriving DecidableEq, Repr

/-- R70: the far end's data-command mode. -/
inductive DMode where
  | auto
  | fixed
  | read
  | none
  deriving DecidableEq, Repr

/-- R70: the far end's display state. -/
inductive Disp where
  | off
  | on (b : Level)
  deriving DecidableEq, Repr

/-- R70: the far-end state of the reference reading. -/
structure FarEnd where
  dram  : Vector (Known Byte) 16
  dmode : Known DMode
  disp  : Known Disp
  deriving DecidableEq, Repr

/-- R78, R80: every DRAM byte, DMODE and DISP unknown. -/
def FarEnd.unknown : FarEnd := ⟨Vector.replicate 16 .unknown, .unknown, .unknown⟩

/-- The wire: R37's trace; the frame on the line since the latest `Start`; and the frames closed by a `Stop` that the far end has not read yet, oldest first (R71, R81, log 12). -/
structure Wire where
  trace   : List Event
  line    : Frame
  pending : List Frame
  deriving DecidableEq, Repr

/-- The wire before any event. -/
def Wire.empty : Wire := ⟨[], .empty, []⟩

/-- The machine: R20's tuple, then what stands beside it. -/
structure State where
  /-- INIT (R23). -/
  init       : Bool
  /-- NUM_DIGITS (R24). -/
  numDigits  : Count
  /-- NUM_LEDS (R25). -/
  numLeds    : Count
  /-- NUM_BUTTONS (R26). -/
  numButtons : Count
  /-- BRIGHT (R27). -/
  bright     : Level
  /-- DMAP[0..7] (R28). -/
  dmap       : Vector Position 8
  /-- DIG[0..7] (R29). -/
  dig        : Vector Byte 8
  /-- LEDM (R30). -/
  ledm       : Byte
  /-- PINS_CFG (R32). -/
  pinsCfg    : Bool
  /-- IN_FRAME (R33, log 26). -/
  inFrame    : Bool
  /-- DIO_DIR (R34). -/
  dioDir     : Dir
  /-- FAULT (R36). -/
  fault      : Option FaultRecord
  /-- The wire trace (R37) and the frames on it. -/
  wire       : Wire
  /-- How many draws `rx()` has made (R13); it selects the next free byte (log 6). -/
  draws      : Nat
  /-- The host's request bytes that the block has not taken yet (R90, R95, log 1). -/
  requests   : List Byte
  /-- The responses given so far, oldest first (R13, R21, log 5). -/
  responses  : List Byte
  /-- The far-end reference reading of the frames read so far (R70). -/
  farEnd     : FarEnd
  deriving DecidableEq, Repr

/-- A sub-step of a request (R13, `call OP(args)`): it completes with a value, or raises a fault; either way with the state so far (R233). -/
inductive Sub (α : Type) where
  | ok (a : α) (s : State)
  | raise (c : FaultCode) (s : State)

/-- What a step or a meaning answers. -/
abbrev Result := Host.Outcome State Fault Refusal

/-- R39, R260: the block right after its construction. Registers whose reset value R39 calls unspecified hold the values that logs 9 to 11 name. -/
def State.reset : State where
  init := false
  numDigits := 0
  numLeds := 0
  numButtons := 0
  bright := 0#3
  dmap := Vector.replicate 8 0#3
  dig := Vector.replicate 8 0x00#8
  ledm := 0x00#8
  pinsCfg := false
  inFrame := false
  dioDir := .out
  fault := none
  wire := .empty
  draws := 0
  requests := []
  responses := []
  farEnd := .unknown

end Sys2Proof.Machine
end

