-- ==== Sys2Proof/Machine/Flags.lean ====
section
/-! DEFINITION. The block has no flags and no condition codes (rule R38). What stands here is how requests test the status bits INIT, PINS_CFG, IN_FRAME and DIO_DIR, each test in the order of rules R125 and R235. -/

namespace Sys2Proof.Machine

/-- R170, R156: the INIT check. -/
def checkInit (s : State) : Option FaultCode :=
  if s.init then none else some .notInitialized

/-- R110: the PINS_CFG check of every transport request. -/
def checkPins (s : State) : Option FaultCode :=
  if s.pinsCfg then none else some .notInitialized

/-- R115: the checks of T_START. -/
def checkStart (s : State) : Option FaultCode :=
  if s.pinsCfg = false then some .notInitialized
  else if s.inFrame then some .frameNest
  else none

/-- R116: the checks of T_STOP. -/
def checkStop (s : State) : Option FaultCode :=
  if s.pinsCfg = false then some .notInitialized
  else if s.inFrame = false then some .noFrame
  else none

/-- R117, R118: the checks of a byte transfer that needs direction `d`. -/
def checkTransfer (d : Dir) (s : State) : Option FaultCode :=
  if s.pinsCfg = false then some .notInitialized
  else if s.inFrame = false then some .noFrame
  else if s.dioDir ≠ d then some .dirMismatch
  else none

end Sys2Proof.Machine
end

