-- ==== Sys2Proof/Machine/Operands.lean ====
section
/-! DEFINITION. How operands name state: indices (rules R51, R150), counts (rule R173), the digit map (rules R28, R172), slots (rule R158), digit values (rule R180), and the byte merges (rule R157). -/

namespace Sys2Proof.Machine

/-! ### Indices -/

/-- R150: a register-file index; none for 8 or more. -/
def shadowIndex (i : Byte) : Option Index :=
  if h : i.toNat < 8 then some ⟨i.toNat, h⟩ else none

/-- R179, R186: a digit index below NUM_DIGITS; none otherwise. -/
def digitIndex (s : State) (d : Nat) : Option Index :=
  if h : d < s.numDigits.val then some ⟨d, by have := s.numDigits.isLt; omega⟩ else none

/-- R185: an LED index below NUM_LEDS, NUM_LEDS not 0; none otherwise. -/
def ledIndex (s : State) (i : Nat) : Option Index :=
  if h : s.numLeds.val ≠ 0 ∧ i < s.numLeds.val then some ⟨i, by have := s.numLeds.isLt; omega⟩ else none

/-! ### Counts (R173) -/

/-- `clampDigits`: 0 becomes 1, more than 8 becomes 8. -/
def clampDigits (n : Byte) : Count :=
  if n.toNat = 0 then 1 else if h : n.toNat > 8 then 8 else ⟨n.toNat, by omega⟩

/-- `clampFeature`: more than 8 becomes 0, the feature disabled. -/
def clampFeature (n : Byte) : Count :=
  if h : n.toNat > 8 then 0 else ⟨n.toNat, by omega⟩

/-! ### The digit map -/

/-- R171: `DMAP[l] = l`. -/
def identityMap : Vector Position 8 := #v[0#3, 1#3, 2#3, 3#3, 4#3, 5#3, 6#3, 7#3]

/-- R172: a supplied map; none unless it is a permutation of 0..7, eight entries, each below 8, no two equal. -/
def suppliedMap : List Byte → Option (Vector Position 8)
  | [m0, m1, m2, m3, m4, m5, m6, m7] =>
    if ([m0, m1, m2, m3, m4, m5, m6, m7].all fun m => m.toNat < 8) && [m0, m1, m2, m3, m4, m5, m6, m7].Nodup then
      some #v[m0.setWidth 3, m1.setWidth 3, m2.setWidth 3, m3.setWidth 3,
        m4.setWidth 3, m5.setWidth 3, m6.setWidth 3, m7.setWidth 3]
    else none
  | _ => none

/-- R177 `inv(p)`: the l with `DMAP[l] = p`. A map that is no permutation, which no request writes, may have none: then p itself (log 17). -/
def inverseMap (dmap : Vector Position 8) (p : Index) : Index :=
  ((List.finRange 8).find? fun l => (dmap[l]).toNat == p.val).getD p

/-- R158: `segSlot(l) = 2 * DMAP[l]`. -/
def segSlot (s : State) (l : Index) : Slot := BitVec.ofNat 4 (2 * (s.dmap[l]).toNat)

/-- R158: `ledSlot(l) = 2 * DMAP[l] + 1`. -/
def ledSlot (s : State) (l : Index) : Slot := BitVec.ofNat 4 (2 * (s.dmap[l]).toNat + 1)

/-! ### Bytes (R157, R30, R100) -/

/-- R157: new segments, old decimal point. -/
def mergeSeg (old pat : Byte) : Byte := (pat &&& 0x7F#8) ||| (old &&& 0x80#8)

/-- R157: new decimal point, old segments. -/
def mergeDp (old : Byte) (on : Bool) : Byte := (old &&& 0x7F#8) ||| (if on then 0x80#8 else 0x00#8)

/-- `LEDM[i] <- on`: one bit of a mask, the others kept (R154). -/
def setBit (m : Byte) (i : Index) (on : Bool) : Byte :=
  if on then m ||| (0x01#8 <<< i.val) else m &&& ~~~(0x01#8 <<< i.val)

/-- R100: the byte of an LED. -/
def ledByte (on : Bool) : Byte := if on then 0x01#8 else 0x00#8

/-- Bit k of v, or bit 7-k: the bit order of R178 and R184. -/
def orderedBit (v : Byte) (lsbFirst : Bool) (k : Nat) : Bool :=
  if lsbFirst then v.getLsbD k else v.getLsbD (7 - k)

/-! ### Digit values (R180) -/

/-- The n decimal digits of v, most significant first. -/
def decDigits (v n : Nat) : List Nat := (List.range n).map fun j => v / 10 ^ (n - 1 - j) % 10

/-- The n hexadecimal digits of v, most significant first. -/
def hexDigits (v n : Nat) : List Nat := (List.range n).map fun j => (v >>> (4 * (n - 1 - j))) &&& 0xF

/-- R187: `trunc_8(b0 | (b1 << 1) | (b2 << 2) | (b3 << 3))`. -/
def combineButtons (b0 b1 b2 b3 : Byte) : Byte :=
  BitVec.ofNat 8 (b0.toNat ||| (b1.toNat <<< 1) ||| (b2.toNat <<< 2) ||| (b3.toNat <<< 3))

end Sys2Proof.Machine
end

