-- ==== Sys2Proof/Machine/Ops.lean ====
section
/-! DEFINITION. The operations the meanings share: sub-steps, wire events, responses and draws (rule R13), taking a fault (rules R233, R234), the shadow writes (rule R12), the transport primitives (rules R115 to R121) and the frame procedures (rules R122 to R124). -/

namespace Sys2Proof.Machine

/-! ### Sub-steps -/

/-- One sub-step after another; a fault of the first is the caller's (R13). -/
def Sub.bind {α β : Type} (x : Sub α) (f : α → State → Sub β) : Sub β :=
  match x with
  | .ok a s => f a s
  | .raise c s => .raise c s

/-- `for x = ...`: a sub-step for each element, in order (R11). -/
def Sub.each {α : Type} (f : α → State → Sub Unit) : List α → State → Sub Unit
  | [], s => .ok () s
  | x :: xs, s => (f x s).bind fun _ s => Sub.each f xs s

/-! ### Events, responses and draws (R13) -/

/-- `emit(e)`: the event joins the trace; a `Start` opens the frame on the line, a transfer adds to it, and a `Stop` hands it to the far end (R71, R81). -/
def Wire.emit (w : Wire) (e : Event) : Wire :=
  match e with
  | .start => { w with trace := w.trace ++ [e], line := .empty }
  | .stop => { trace := w.trace ++ [e], line := .empty, pending := w.pending ++ [w.line] }
  | .tx b => { w with trace := w.trace ++ [e], line := { w.line with sent := w.line.sent ++ [b] } }
  | .rx _ => { w with trace := w.trace ++ [e], line := { w.line with reads := w.line.reads + 1 } }
  | .dirIn | .dirOut => { w with trace := w.trace ++ [e] }

/-- Several events in order. -/
def Wire.emits (w : Wire) (es : List Event) : Wire := es.foldl Wire.emit w

/-- `emit(e)` on the machine. -/
def State.emit (s : State) (e : Event) : State := { s with wire := s.wire.emit e }

/-- `respond(v)`. -/
def State.respond (s : State) (v : Byte) : State := { s with responses := s.responses ++ [v] }

/-- The byte `rx()` returns next: a free value (D33, log 6). -/
def State.nextDraw (s : State) : Byte := Config.keyScanByte s.draws

/-- `v <- rx()`: the draw is made. -/
def State.draw (s : State) : State := { s with draws := s.draws + 1 }

/-! ### Faults -/

/-- Fault entry (R233): FAULT gets the code and the request that raised it; nothing else changes. There is no vector, no handler and no return: only a new reset leaves it (R234). -/
def State.takeFault (s : State) (c : FaultCode) (request : List Byte) : State :=
  { s with fault := some ⟨c, request⟩ }

/-- A host request, from its pseudocode `body`: refused while FAULT is set (R234); otherwise it completes, or stops at the sub-step that raises a fault and takes it (R233, log 3). -/
def perform (i : Instr) (s : State) (body : State → Sub Unit) : Result :=
  match s.fault with
  | some r => .fault (.latched r.code)
  | none =>
    match body s with
    | .ok _ t => .next t
    | .raise c t => .next (t.takeFault c (encode i).bytes)

/-- A request or sub-step behind a check: the fault the check names, or the rest. -/
def guarded {α : Type} (check : State → Option FaultCode) (body : State → Sub α) (s : State) : Sub α :=
  match check s with
  | some c => .raise c s
  | none => body s

/-! ### Shadow writes (R12) -/

/-- `DIG[i] <- b`. -/
def State.setDig (s : State) (i : Index) (b : Byte) : State := { s with dig := s.dig.set i.val b }

/-- `LEDM[i] <- on`. -/
def State.setLed (s : State) (i : Index) (on : Bool) : State := { s with ledm := setBit s.ledm i on }

/-! ### Transport primitives -/

/-- R115. -/
def openFrame : State → Sub Unit :=
  guarded checkStart fun s => .ok () ({ s with inFrame := true }.emit .start)

/-- R116. -/
def closeFrame : State → Sub Unit :=
  guarded checkStop fun s => .ok () ({ s with inFrame := false }.emit .stop)

/-- R117. -/
def sendByte (b : Byte) : State → Sub Unit :=
  guarded (checkTransfer .out) fun s => .ok () (s.emit (.tx b))

/-- R118, less the response: the byte read. -/
def receiveByte : State → Sub Byte :=
  guarded (checkTransfer .in_) fun s => .ok s.nextDraw (s.draw.emit (.rx s.nextDraw))

/-- R120. -/
def dioIn : State → Sub Unit :=
  guarded checkPins fun s => .ok () ({ s with dioDir := .in_ }.emit .dirIn)

/-- R121. -/
def dioOut : State → Sub Unit :=
  guarded checkPins fun s => .ok () ({ s with dioDir := .out }.emit .dirOut)

/-- R119: start, write one byte, stop. -/
def sendCommand (b : Byte) (s : State) : Sub Unit :=
  (openFrame s).bind fun _ s => (sendByte b s).bind fun _ s => closeFrame s

/-! ### Frame procedures -/

/-- R122: `FIXED_WRITE(s, d)`. -/
def fixedWrite (slot : Slot) (d : Byte) (s : State) : Sub Unit :=
  (sendCommand WireCmd.dataFixed.byte s).bind fun _ s =>
  (openFrame s).bind fun _ s =>
  (sendByte (WireCmd.addr slot).byte s).bind fun _ s =>
  (sendByte d s).bind fun _ s =>
  closeFrame s

/-- R123: `AUTO_WRITE([d0, ..., dn-1])`, from slot 0. -/
def autoWrite (ds : List Byte) (s : State) : Sub Unit :=
  (sendCommand WireCmd.dataAuto.byte s).bind fun _ s =>
  (openFrame s).bind fun _ s =>
  (sendByte (WireCmd.addr 0#4).byte s).bind fun _ s =>
  (Sub.each sendByte ds s).bind fun _ s =>
  closeFrame s

/-- R124: `KEYSCAN()`: the four bytes read, b0 to b3. -/
def keyScan (s : State) : Sub (Byte × Byte × Byte × Byte) :=
  (openFrame s).bind fun _ s =>
  (sendByte WireCmd.dataRead.byte s).bind fun _ s =>
  (dioIn s).bind fun _ s =>
  (receiveByte s).bind fun b0 s =>
  (receiveByte s).bind fun b1 s =>
  (receiveByte s).bind fun b2 s =>
  (receiveByte s).bind fun b3 s =>
  (dioOut s).bind fun _ s =>
  (closeFrame s).bind fun _ s =>
  .ok (b0, b1, b2, b3) s

end Sys2Proof.Machine
end

