-- ==== Sys2Proof/Machine/FarEnd.lean ====
section
/-! DEFINITION. The far-end reference reading (rules R70 to R81): what the far end does with a frame, one meaning for each wire command, and what is shown. -/

namespace Sys2Proof.Machine

/-! ### Frames the rules do not cover (R78) -/

/-- R78: a frame that opens with no command of R71 havocs, and so does one that only reads, which 0x42 did not open (R118). The empty frame `S P` changes nothing (R78 and R116 by D35, log 16). -/
def FarEnd.uncovered (e : FarEnd) (f : Frame) : FarEnd := if f = .empty then e else .unknown

/-! ### Commands -/

/-- R72: a frame of exactly one byte, 0x40. -/
def FarEnd.dataAuto (tail : Frame) (e : FarEnd) : FarEnd :=
  if tail = .empty then { e with dmode := .known .auto } else .unknown

/-- R74: a frame that sends 0x42 and no other byte; its reads return key-scan bytes and change no DRAM byte. -/
def FarEnd.dataRead (tail : Frame) (e : FarEnd) : FarEnd :=
  if tail.sent = [] then { e with dmode := .known .read } else .unknown

/-- R73: a frame of exactly one byte, 0x44. -/
def FarEnd.dataFixed (tail : Frame) (e : FarEnd) : FarEnd :=
  if tail = .empty then { e with dmode := .known .fixed } else .unknown

/-- R75: a frame of exactly one byte, 0x80. -/
def FarEnd.dispOff (tail : Frame) (e : FarEnd) : FarEnd :=
  if tail = .empty then { e with disp := .known .off } else .unknown

/-- R75: a frame of exactly one byte, `0x88 | b`. -/
def FarEnd.dispOn (b : Level) (tail : Frame) (e : FarEnd) : FarEnd :=
  if tail = .empty then { e with disp := .known (.on b) } else .unknown

/-- DRAM bytes from slot a on; bytes past slot 15 are not written (R76). -/
def dramWrite (dram : Vector (Known Byte) 16) (a : Nat) : List Byte → Vector (Known Byte) 16
  | [] => dram
  | d :: ds => dramWrite (dram.setIfInBounds a (.known d)) (a + 1) ds

/-- R76: an address frame in AUTO mode. Past slot 15 the bytes up to it are written and everything else is unknown (log 15). -/
def FarEnd.addrAuto (a : Nat) (ds : List Byte) (e : FarEnd) : FarEnd :=
  if a + ds.length ≤ 16 then { e with dram := dramWrite e.dram a ds }
  else { FarEnd.unknown with dram := dramWrite FarEnd.unknown.dram a ds }

/-- R77: an address frame in FIXED mode. -/
def FarEnd.addrFixed (a : Nat) (ds : List Byte) (e : FarEnd) : FarEnd :=
  match ds with
  | [] => e
  | [d] => { e with dram := dramWrite e.dram a [d] }
  | _ => .unknown

/-- R76, R77: an address frame. In READ or NONE mode it havocs; in an unknown mode, which may be one of these, nothing is known after it (log 14). A frame that reads havocs (R118, log 16). -/
def FarEnd.addr (s : Slot) (tail : Frame) (e : FarEnd) : FarEnd :=
  if tail.reads ≠ 0 then .unknown
  else match e.dmode with
    | .known .auto => e.addrAuto s.toNat tail.sent
    | .known .fixed => e.addrFixed s.toNat tail.sent
    | .known .read | .known .none | .unknown => .unknown

/-- The far end reads one command. -/
def FarEnd.command (tail : Frame) (e : FarEnd) : WireCmd → FarEnd
  | .dataAuto => e.dataAuto tail
  | .dataRead => e.dataRead tail
  | .dataFixed => e.dataFixed tail
  | .dispOff => e.dispOff tail
  | .dispOn b => e.dispOn b tail
  | .addr s => e.addr s tail

/-- R71: the far end reads one frame, classified by its first byte sent. -/
def FarEnd.read (e : FarEnd) (f : Frame) : FarEnd :=
  match f.sent with
  | [] => e.uncovered f
  | c :: rest =>
    match classify c with
    | some cmd => e.command ⟨rest, f.reads⟩ cmd
    | none => e.uncovered f

/-- The far end reads every frame it has not read yet. -/
def State.settled (s : State) : State :=
  { s with farEnd := s.wire.pending.foldl FarEnd.read s.farEnd, wire := { s.wire with pending := [] } }

/-! ### Meanings of the wire commands -/

/-- R72 W_DATA_AUTO. -/
def execWDataAuto (tail : Frame) (s : State) : Result := .next { s with farEnd := s.farEnd.dataAuto tail }

/-- R74 W_DATA_READ. -/
def execWDataRead (tail : Frame) (s : State) : Result := .next { s with farEnd := s.farEnd.dataRead tail }

/-- R73 W_DATA_FIXED. -/
def execWDataFixed (tail : Frame) (s : State) : Result := .next { s with farEnd := s.farEnd.dataFixed tail }

/-- R75 W_DISP_OFF. -/
def execWDispOff (tail : Frame) (s : State) : Result := .next { s with farEnd := s.farEnd.dispOff tail }

/-- R75 W_DISP_ON. -/
def execWDispOn (b : Level) (tail : Frame) (s : State) : Result := .next { s with farEnd := s.farEnd.dispOn b tail }

/-- R76, R77 W_ADDR. -/
def execWAddr (a : Slot) (tail : Frame) (s : State) : Result := .next { s with farEnd := s.farEnd.addr a tail }

/-! ### The trace as frames (R71) -/

/-- One event read into the frames closed so far and the frame that is open, if any. -/
def frameScan : List Frame × Option Frame → Event → List Frame × Option Frame
  | (fs, _), .start => (fs, some .empty)
  | (fs, some f), .stop => (fs ++ [f], none)
  | (fs, some f), .tx b => (fs, some { f with sent := f.sent ++ [b] })
  | (fs, some f), .rx _ => (fs, some { f with reads := f.reads + 1 })
  | (fs, some f), .dirIn => (fs, some f)
  | (fs, some f), .dirOut => (fs, some f)
  | (fs, none), .stop => (fs, none)
  | (fs, none), .tx _ => (fs, none)
  | (fs, none), .rx _ => (fs, none)
  | (fs, none), .dirIn => (fs, none)
  | (fs, none), .dirOut => (fs, none)

/-- R71: the frames of a trace, each what is sent and read between a `Start` and the next `Stop`. -/
def framesOf (trace : List Event) : List Frame := (trace.foldl frameScan ([], none)).1

/-- R71: the frame a trace leaves open. -/
def openFrameOf (trace : List Event) : Option Frame := (trace.foldl frameScan ([], none)).2

/-- R37, R70 to R80: the reference reading of a trace, from a far end of which nothing is known. -/
def FarEnd.reading (trace : List Event) : FarEnd := (framesOf trace).foldl FarEnd.read .unknown

/-! ### What is shown (R79) -/

/-- A function of a known value. -/
def Known.map {α β : Type} (f : α → β) : Known α → Known β
  | .unknown => .unknown
  | .known a => .known (f a)

/-- R79: what a position shows: segments a..g in bits 0..6, the decimal point, and the LED. -/
structure Shown where
  segments : Known Pattern
  dp       : Known Bool
  led      : Known Bool
  deriving DecidableEq, Repr

/-- R79: nothing is shown. -/
def Shown.nothing : Shown := ⟨.known 0#7, .known false, .known false⟩

/-- R79: what position p shows; nothing while DISP is OFF, and unknown while DISP is unknown (log 18). -/
def FarEnd.shown (e : FarEnd) (p : Index) : Shown :=
  match e.disp with
  | .unknown => ⟨.unknown, .unknown, .unknown⟩
  | .known .off => .nothing
  | .known (.on _) =>
    let seg := e.dram[2 * p.val]
    let led := e.dram[2 * p.val + 1]
    ⟨seg.map fun b => b.setWidth 7, seg.map fun b => b.getLsbD 7, led.map fun b => b.getLsbD 0⟩

/-- R79: logical digit l is shown at position `DMAP[l]`. -/
def State.shownDigit (s : State) (l : Index) : Shown := s.farEnd.shown ⟨(s.dmap[l]).toNat, (s.dmap[l]).isLt⟩

end Sys2Proof.Machine
end

