-- ==== Sys2Proof/Machine/RegFile.lean ====
section
/-! DEFINITION. Family R, the shadow register file and the digit map (rules R150 to R158). -/

namespace Sys2Proof.Machine

/-- A register-file request on entry i: INDEX_RANGE for 8 or more (R150). -/
def onIndex (i : Byte) (body : Index → State → Sub Unit) (s : State) : Sub Unit :=
  match shadowIndex i with
  | some k => body k s
  | none => .raise .indexRange s

/-- R151 R_SETDIG. -/
def execRSetdig (i b : Byte) (s : State) : Result :=
  perform (.rSetdig i b) s (onIndex i fun k s => .ok () (s.setDig k b))

/-- R152 R_GETDIG. -/
def execRGetdig (i : Byte) (s : State) : Result :=
  perform (.rGetdig i) s (onIndex i fun k s => .ok () (s.respond s.dig[k]))

/-- R153 R_SETDP. -/
def execRSetdp (i : Byte) (on : Bool) (s : State) : Result :=
  perform (.rSetdp i on) s (onIndex i fun k s => .ok () (s.setDig k (mergeDp s.dig[k] on)))

/-- R154 R_SETLED. -/
def execRSetled (i : Byte) (on : Bool) (s : State) : Result :=
  perform (.rSetled i on) s (onIndex i fun k s => .ok () (s.setLed k on))

/-- R155 R_GETLEDM. -/
def execRGetledm (s : State) : Result :=
  perform .rGetledm s fun s => .ok () (s.respond s.ledm)

/-- R156 R_PHYS: the INIT check comes before the index check (R235). -/
def execRPhys (l : Byte) (s : State) : Result :=
  perform (.rPhys l) s (guarded checkInit (onIndex l fun k s => .ok () (s.respond ((s.dmap[k]).setWidth 8))))

end Sys2Proof.Machine
end

