-- ==== Sys2Proof/Machine/Codec.lean ====
section
/-! DEFINITION. Family S, the seven-segment codec (rules R140 to R144). -/

namespace Sys2Proof.Machine

/-- R8, R140: an index SEG_SINGLE_BASE may have: 0..40, and no single-segment entry at index 32, which is blank (P2 against P5, log 7). -/
abbrev singleBaseAllowed (b : Nat) : Prop := b ≤ 40 ∧ (b + 6 < Config.blankIndex ∨ Config.blankIndex < b)

/-- SEG_SINGLE_BASE: the free value, kept within what R140 allows. -/
def segSingleBase : Nat :=
  if singleBaseAllowed Config.segSingleBaseFree then Config.segSingleBaseFree else Config.segSingleBaseReference

/-- SEG_TABLE (R31, R140): 47 entries of 7 bits (P1, P3); entry 32 blank (P2); the single-segment entries (P5); the others free (log 7). -/
def segTable (i : Fin 47) : Pattern :=
  if i.val = Config.blankIndex then 0x00#7
  else if segSingleBase ≤ i.val ∧ i.val < segSingleBase + 7 then 0x01#7 <<< (i.val - segSingleBase)
  else Config.segPattern i.val

/-- R142 `encode`: the entry of an index, the blank entry beyond the table. -/
def segEncode (i : Byte) : Byte :=
  if h : i.toNat < 47 then (segTable ⟨i.toNat, h⟩).setWidth 8 else (segTable 32).setWidth 8

/-- R143 `rawEncode`. -/
def rawEncode (x : Byte) : Byte := x &&& 0x7F#8

/-- R142 S_ENCODE. -/
def execSEncode (idx : Byte) (s : State) : Result :=
  perform (.sEncode idx) s fun s => .ok () (s.respond (segEncode idx))

/-- R143 S_RAWENC. -/
def execSRawenc (bits : Byte) (s : State) : Result :=
  perform (.sRawenc bits) s fun s => .ok () (s.respond (rawEncode bits))

end Sys2Proof.Machine
end

