-- ==== Sys2Proof/Machine/Sequencer.lean ====
section
/-! DEFINITION. Family D, the command sequencer (rules R170 to R189). -/

namespace Sys2Proof.Machine

/-! ### Procedures, which requests call as sub-steps -/

/-- R185 SET_LED on an index; a no-op at or above NUM_LEDS. The shadow is written before the frame (R63). -/
def showLed (i : Nat) (on : Bool) (s : State) : Sub Unit :=
  match ledIndex s i with
  | none => .ok () s
  | some k => fixedWrite (ledSlot s k) (ledByte on) (s.setLed k on)

/-- Write a digit byte to the shadow and send it (R63, R179, R186). -/
def showDig (k : Index) (b : Byte) (s : State) : Sub Unit := fixedWrite (segSlot s k) b (s.setDig k b)

/-- R179: the pattern of a glyph or of a raw value. -/
def glyph (v : Byte) (raw : Bool) : Byte := if raw then rawEncode v else segEncode v

/-- R179 SHOW_CHAR on an index; a no-op at or above NUM_DIGITS, which leaves an open frame open and the data line as it is (R170, log 26). -/
def showGlyph (d : Nat) (v : Byte) (raw : Bool) (s : State) : Sub Unit :=
  match digitIndex s d with
  | none => .ok () s
  | some k => showDig k (mergeSeg s.dig[k] (glyph v raw)) s

/-- R186 SET_DP on an index; a no-op at or above NUM_DIGITS. -/
def showDp (d : Nat) (on : Bool) (s : State) : Sub Unit :=
  match digitIndex s d with
  | none => .ok () s
  | some k => showDig k (mergeDp s.dig[k] on) s

/-- R180 `showDigits(d, L)`: the j-th value on logical digit d + j. -/
def showDigits (d : Nat) : List Nat → State → Sub Unit
  | [], s => .ok () s
  | v :: vs, s => (showGlyph d (BitVec.ofNat 8 v) false s).bind fun _ s => showDigits (d + 1) vs s

/-- R181 to R183: n digits from digit d, a no-op unless all of them are configured (NUM_DIGITS > n-1 and d + (n-1) < NUM_DIGITS). -/
def showNumber (d n : Nat) (digits : List Nat) (s : State) : Sub Unit :=
  if s.numDigits.val > n - 1 ∧ d + (n - 1) < s.numDigits.val then showDigits d digits s else .ok () s

/-- R175: one round of CLEAR. -/
def clearDigit (i : Nat) (s : State) : Sub Unit :=
  (showLed i false s).bind fun _ s => (showGlyph i 0x00#8 true s).bind fun _ s => showDp i false s

/-- R175 CLEAR. -/
def clearAll (s : State) : Sub Unit := Sub.each clearDigit (List.range s.numDigits.val) s

/-- R176 SET_BRIGHTNESS: masked to three bits; it turns the display on. -/
def brightness (level : Byte) (s : State) : Sub Unit :=
  sendCommand (WireCmd.dispOn (level.setWidth 3)).byte { s with bright := level.setWidth 3 }

/-- R171: what BEGIN records before it clears. -/
def configured (nb nl nd : Byte) (dmap : Vector Position 8) (s : State) : State :=
  { s with
    numButtons := clampFeature nb
    numLeds := clampFeature nl
    numDigits := clampDigits nd
    dmap := dmap
    pinsCfg := true
    dioDir := .out
    init := true }

/-- R171: BEGIN with a digit map: configure, clear, set the brightness. -/
def begin_ (nb nl nd br : Byte) (dmap : Vector Position 8) (s : State) : Sub Unit :=
  (clearAll ((configured nb nl nd dmap s).emit .dirOut)).bind fun _ s => brightness br s

/-- R177: the bytes TEST sends for M positions. -/
def testBytes (enable : Bool) (s : State) : List Byte :=
  ((List.finRange 8).take (max s.numDigits.val s.numLeds.val)).flatMap fun p =>
    if enable then [0xFF#8, ledByte true]
    else [s.dig[inverseMap s.dmap p], ledByte (s.ledm.getLsbD (inverseMap s.dmap p).val)]

/-- R170: a sequencer request needs INIT. -/
def sequenced (i : Instr) (s : State) (body : State → Sub Unit) : Result := perform i s (guarded checkInit body)

/-! ### Initialisation and display control -/

/-- R171 BEGIN. -/
def execBegin (nb nl nd br : Byte) (s : State) : Result :=
  perform (.beginId nb nl nd br) s (begin_ nb nl nd br identityMap)

/-- R172 BEGIN_MAP: DMAP_INVALID before any state is written. -/
def execBeginMap (nb nl nd br : Byte) (map : List Byte) (s : State) : Result :=
  perform (.beginMap nb nl nd br map) s fun s =>
    match suppliedMap map with
    | none => .raise .dmapInvalid s
    | some dmap => begin_ nb nl nd br dmap s

/-- R174 DISPLAY_OFF. -/
def execDisplayOff (s : State) : Result := sequenced .displayOff s (sendCommand WireCmd.dispOff.byte)

/-- R175 CLEAR. -/
def execClear (s : State) : Result := sequenced .clear s clearAll

/-- R176 SET_BRIGHTNESS. -/
def execSetBrightness (level : Byte) (s : State) : Result :=
  sequenced (.setBrightness level) s (brightness level)

/-- R177 TEST: the shadow is not changed. -/
def execTest (enable : Bool) (s : State) : Result :=
  sequenced (.test enable) s fun s => autoWrite (testBytes enable s) s

/-! ### Digit display -/

/-- R178 SHOW_BYTE_BINARY: a no-op below eight digits. -/
def execShowByteBinary (v : Byte) (lsbFirst : Bool) (s : State) : Result :=
  sequenced (.showByteBinary v lsbFirst) s fun s =>
    if s.numDigits.val < 8 then .ok () s
    else Sub.each (fun k s => showGlyph k (BitVec.ofNat 8 (orderedBit v lsbFirst k).toNat) false s) (List.range 8) s

/-- R179 SHOW_CHAR. -/
def execShowChar (d v : Byte) (raw : Bool) (s : State) : Result :=
  sequenced (.showChar d v raw) s (showGlyph d.toNat v raw)

/-- R181 SHOW_INT8. -/
def execShowInt8 (d v : Byte) (decimal : Bool) (s : State) : Result :=
  sequenced (.showInt8 d v decimal) s
    (showNumber d.toNat 2 (if decimal then decDigits (min v.toNat 99) 2 else hexDigits v.toNat 2))

/-- R182 SHOW_INT12. -/
def execShowInt12 (d : Byte) (v : Half) (decimal : Bool) (s : State) : Result :=
  sequenced (.showInt12 d v decimal) s
    (showNumber d.toNat 3 (if decimal then decDigits (min v.toNat 999) 3 else hexDigits (min v.toNat 0xFFF) 3))

/-- R183 SHOW_INT16. -/
def execShowInt16 (d : Byte) (v : Half) (decimal : Bool) (s : State) : Result :=
  sequenced (.showInt16 d v decimal) s
    (showNumber d.toNat 4 (if decimal then decDigits (min v.toNat 9999) 4 else hexDigits v.toNat 4))

/-! ### Decimal points, LEDs and buttons -/

/-- R184 SHOW_LEDS_BINARY: a no-op below eight LEDs. -/
def execShowLedsBinary (v : Byte) (lsbFirst : Bool) (s : State) : Result :=
  sequenced (.showLedsBinary v lsbFirst) s fun s =>
    if s.numLeds.val < 8 then .ok () s
    else Sub.each (fun k s => showLed k (orderedBit v lsbFirst k) s) (List.range 8) s

/-- R185 SET_LED. -/
def execSetLed (i : Byte) (on : Bool) (s : State) : Result :=
  sequenced (.setLed i on) s (showLed i.toNat on)

/-- R186 SET_DP. -/
def execSetDp (d : Byte) (on : Bool) (s : State) : Result :=
  sequenced (.setDp d on) s (showDp d.toNat on)

/-- R187 READ_BUTTONS: 0 and no frame without buttons; otherwise the four bytes combined, not masked to NUM_BUTTONS (D32). -/
def execReadButtons (s : State) : Result :=
  sequenced .readButtons s fun s =>
    if s.numButtons.val = 0 then .ok () (s.respond 0x00#8)
    else (keyScan s).bind fun b s => .ok () (s.respond (combineButtons b.1 b.2.1 b.2.2.1 b.2.2.2))

end Sys2Proof.Machine
end

