-- ==== Sys2Proof/Machine/Transport.lean ====
section
/-! DEFINITION. Family T, the raw transport requests (rules R115 to R121), and the bit-level refinement of a wire event (rules R112, R113, R35). -/

namespace Sys2Proof.Machine

/-- R115 T_START. -/
def execTStart (s : State) : Result := perform .tStart s openFrame

/-- R116 T_STOP. -/
def execTStop (s : State) : Result := perform .tStop s closeFrame

/-- R117 T_WRBYTE. -/
def execTWrbyte (b : Byte) (s : State) : Result := perform (.tWrbyte b) s (sendByte b)

/-- R118 T_RDBYTE: the byte read is the response. -/
def execTRdbyte (s : State) : Result :=
  perform .tRdbyte s fun s => (receiveByte s).bind fun v s => .ok () (s.respond v)

/-- R119 T_WRCMD. -/
def execTWrcmd (b : Byte) (s : State) : Result := perform (.tWrcmd b) s (sendCommand b)

/-- R120 T_DIO_IN. -/
def execTDioIn (s : State) : Result := perform .tDioIn s dioIn

/-- R121 T_DIO_OUT. -/
def execTDioOut (s : State) : Result := perform .tDioOut s dioOut

/-! ### Bits on the wire -/

/-- What happens at the pins (R111 to R113): the strobe is driven, the data line is driven, sampled or reconfigured, and the clock makes the one period that transfers a bit, under CLK_PROTOCOL (R9). -/
inductive PinAction where
  | strobe (high : Bool)
  | drive (bit : Bool)
  | sample (bit : Bool)
  | clockSlot (p : Config.ClkProtocol)
  | direction (d : Dir)
  deriving DecidableEq, Repr

/-- R112, R114: the levels of DIO in slot order, `[b[0], ..., b[7]]`. -/
def txLevels (b : Byte) : List Bool := (List.range 8).map fun k => b.getLsbD k

/-- R113: the byte whose bit k is the level sampled in slot k, `sum over k of DIO_k * 2^k`. -/
def rxAssemble : List Bool → Nat
  | [] => 0
  | level :: rest => level.toNat + 2 * rxAssemble rest

/-- R111 to R113: an event as pin actions in time order. -/
def Event.pins : Event → List PinAction
  | .start => [.strobe false]
  | .stop => [.strobe true]
  | .tx b => (txLevels b).flatMap fun level => [.drive level, .clockSlot Config.clkProtocol]
  | .rx b => (txLevels b).flatMap fun level => [.clockSlot Config.clkProtocol, .sample level]
  | .dirIn => [.direction .in_]
  | .dirOut => [.direction .out]

/-- The pin actions of the block since reset: R37's trace refined by R112 and R113. -/
def State.pinActions (s : State) : List PinAction := s.wire.trace.flatMap Event.pins

/-- R33, R35: the level of STB, true for high: low in a frame, high after a `Stop`, and before the first frame a draw (D7, log 8). -/
def State.strobeHigh (s : State) : Bool :=
  if s.inFrame then false
  else if s.wire.trace.contains .stop then true
  else Config.pinLevelInit .stb

end Sys2Proof.Machine
end

