-- ==== Sys2Proof/Machine/Dispatch.lean ====
section
/-! DEFINITION. One arm for each instruction. -/

namespace Sys2Proof.Machine

def exec (i : Instr) (s : State) : Host.Outcome State Fault Refusal :=
  match i with
  | .tStart => Sys2Proof.Machine.execTStart s
  | .tStop => Sys2Proof.Machine.execTStop s
  | .tWrbyte b => Sys2Proof.Machine.execTWrbyte b s
  | .tRdbyte => Sys2Proof.Machine.execTRdbyte s
  | .tWrcmd b => Sys2Proof.Machine.execTWrcmd b s
  | .tDioIn => Sys2Proof.Machine.execTDioIn s
  | .tDioOut => Sys2Proof.Machine.execTDioOut s
  | .sEncode idx => Sys2Proof.Machine.execSEncode idx s
  | .sRawenc bits => Sys2Proof.Machine.execSRawenc bits s
  | .rSetdig k b => Sys2Proof.Machine.execRSetdig k b s
  | .rGetdig k => Sys2Proof.Machine.execRGetdig k s
  | .rSetdp k on => Sys2Proof.Machine.execRSetdp k on s
  | .rSetled k on => Sys2Proof.Machine.execRSetled k on s
  | .rGetledm => Sys2Proof.Machine.execRGetledm s
  | .rPhys l => Sys2Proof.Machine.execRPhys l s
  | .beginId nb nl nd br => Sys2Proof.Machine.execBegin nb nl nd br s
  | .beginMap nb nl nd br map => Sys2Proof.Machine.execBeginMap nb nl nd br map s
  | .displayOff => Sys2Proof.Machine.execDisplayOff s
  | .clear => Sys2Proof.Machine.execClear s
  | .setBrightness level => Sys2Proof.Machine.execSetBrightness level s
  | .test enable => Sys2Proof.Machine.execTest enable s
  | .showByteBinary v lsbFirst => Sys2Proof.Machine.execShowByteBinary v lsbFirst s
  | .showChar d v raw => Sys2Proof.Machine.execShowChar d v raw s
  | .showInt8 d v decimal => Sys2Proof.Machine.execShowInt8 d v decimal s
  | .showInt12 d v decimal => Sys2Proof.Machine.execShowInt12 d v decimal s
  | .showInt16 d v decimal => Sys2Proof.Machine.execShowInt16 d v decimal s
  | .showLedsBinary v lsbFirst => Sys2Proof.Machine.execShowLedsBinary v lsbFirst s
  | .setLed k on => Sys2Proof.Machine.execSetLed k on s
  | .setDp d on => Sys2Proof.Machine.execSetDp d on s
  | .readButtons => Sys2Proof.Machine.execReadButtons s
  | .wDataAuto tail => Sys2Proof.Machine.execWDataAuto tail s
  | .wDataRead tail => Sys2Proof.Machine.execWDataRead tail s
  | .wDataFixed tail => Sys2Proof.Machine.execWDataFixed tail s
  | .wDispOff tail => Sys2Proof.Machine.execWDispOff tail s
  | .wDispOn b tail => Sys2Proof.Machine.execWDispOn b tail s
  | .wAddr a tail => Sys2Proof.Machine.execWAddr a tail s

end Sys2Proof.Machine
end

