-- ==== Sys2Proof/Machine/Fetch.lean ====
section
/-! DEFINITION. Which agent moves next and what it takes: a frame for the far end, or a request for the block (rules R62, R94, R95, R234; log 12). -/

namespace Sys2Proof.Machine

/-- What a step takes: an instruction, with the state after its words are taken; a next state without an instruction; or a stop. -/
inductive Fetched where
  | run (i : Instr) (s : State)
  | settle (s : State)
  | stop (f : Fault)

/-- The far end takes the oldest frame it has not read (R71). A frame that opens with no command is read as R78 says. -/
def fetchFrame (f : Frame) (s : State) : Fetched :=
  match decodeFrame f with
  | some i => .run i s
  | none => .settle { s with farEnd := s.farEnd.uncovered f }

/-- The block takes the host's next request (R62). An unassigned opcode and an invalid BOOL fault before any state is read or written (R94); an incomplete request waits (R95). -/
def fetchRequest (s : State) : Fetched :=
  match decodeRequest s.requests with
  | .request i rest => .run i { s with requests := rest }
  | .illegalRequest op rest => .settle ({ s with requests := rest }.takeFault .illegalRequest [op])
  | .illegalOperand bytes rest => .settle ({ s with requests := rest }.takeFault .illegalOperand bytes)
  | .incomplete => .settle s

/-- A frame on the wire is read before the block takes another request; a block with FAULT set takes none (R234). -/
def fetch (s : State) : Fetched :=
  match s.wire.pending with
  | f :: rest => fetchFrame f { s with wire := { s.wire with pending := rest } }
  | [] =>
    match s.fault with
    | some r => .stop (.latched r.code)
    | none => fetchRequest s

/-- The bytes of a table word that its request takes. -/
def requestBytes (nbits w : Nat) (rest : List Byte) : List Byte :=
  (wordBytes nbits w).take (maxRequestBytes - rest.length)

/-- The word of a table row put where `fetch` takes its next instruction (log 1): a host request before the request stream, once every frame on the wire is read; a wire command as the next frame. -/
def State.presentWord (s : State) (nbits w : Nat) : State :=
  match decodeRequest (wordBytes nbits w) with
  | .request _ rest => { s.settled with requests := requestBytes nbits w rest ++ s.requests }
  | .illegalOperand _ rest => { s.settled with requests := requestBytes nbits w rest ++ s.requests }
  | .illegalRequest op _ =>
    if (decodeFrame (wordFrame nbits w)).isSome then
      { s with wire := { s.wire with pending := wordFrame nbits w :: s.wire.pending } }
    else { s.settled with requests := op :: s.requests }
  | .incomplete => s

end Sys2Proof.Machine
end

