-- ==== Sys2Proof/Machine/Step.lean ====
section
/-! DEFINITION. One step of the machine. -/

namespace Sys2Proof.Machine

/-- One step: what `fetch` takes runs to its end (R58, R272). -/
def step (s : State) : Host.Outcome State Fault Refusal :=
  match fetch s with
  | .run i t => exec i t
  | .settle t => .next t
  | .stop f => .fault f

/-- The state whose next step runs the table word w. -/
def State.withFetchWord (s : State) (nbits w : Nat) : State := s.presentWord nbits w

end Sys2Proof.Machine
end

