-- ==== Sys2Proof/Safety.lean ====
section
/-! DEFINITION. The terms claims are stated in: good runs (rule R234), the states requests start from (rule R170), the invariants (rules R41, R37, R71), the frame shapes (rule R188), and the effects of requests written from their rules and not from the meanings. -/

namespace Sys2Proof.Machine

/-! ### States -/

/-- R234: a faulted state is never a good state of a run. -/
abbrev State.Good (s : State) : Prop := s.fault = none

/-- R170: the state a sequencer request is meant to start from, after BEGIN. -/
abbrev State.Ready (s : State) : Prop :=
  s.fault = none ∧ s.init = true ∧ s.pinsCfg = true ∧ s.inFrame = false ∧ s.dioDir = .out

/-- R170: the abnormal start: a raw request left a frame open, or the data line as input. -/
abbrev State.Abnormal (s : State) : Prop :=
  s.fault = none ∧ s.init = true ∧ s.pinsCfg = true ∧ (s.inFrame = true ∨ s.dioDir = .in_)

/-- R28: no position twice; eight entries in 0..7 are then a permutation. -/
abbrev Permutation (dmap : Vector Position 8) : Prop := ∀ a b : Index, dmap[a] = dmap[b] → a = b

/-- R41: PINS_CFG equals INIT, and after BEGIN there is a digit and the map is a permutation. The other ranges of R41 hold by type. -/
abbrev State.ConfigInv (s : State) : Prop :=
  s.pinsCfg = s.init ∧ (s.init = true → 1 ≤ s.numDigits.val ∧ Permutation s.dmap)

/-- R33, R37, R71: the trace leaves a frame open exactly while IN_FRAME is 1, and it is the frame on the line; and the far end, once it has read every frame, is the reference reading of the trace. -/
abbrev State.WireInv (s : State) : Prop :=
  openFrameOf s.wire.trace = (if s.inFrame then some s.wire.line else none) ∧
  s.settled.farEnd = FarEnd.reading s.wire.trace

/-- R67: the far end, once it has read every frame, holds the shadow's byte of every configured digit, and the LED byte of every LED below both counts. -/
abbrev State.Mirrored (s : State) : Prop :=
  ∀ l : Index,
    (l.val < s.numDigits.val → s.settled.farEnd.dram[(2 * (s.dmap[l]).toNat)]? = some (.known s.dig[l])) ∧
    (l.val < s.numDigits.val → l.val < s.numLeds.val →
      s.settled.farEnd.dram[(2 * (s.dmap[l]).toNat + 1)]? = some (.known (ledByte (s.ledm.getLsbD l.val))))

/-! ### Kinds of instruction -/

/-- A host request (R93), as against a wire command (R96). -/
def isRequest : Instr → Bool
  | .wDataAuto _ | .wDataRead _ | .wDataFixed _ | .wDispOff _ | .wDispOn _ _ | .wAddr _ _ => false
  | .tStart | .tStop | .tWrbyte _ | .tRdbyte | .tWrcmd _ | .tDioIn | .tDioOut => true
  | .sEncode _ | .sRawenc _ => true
  | .rSetdig _ _ | .rGetdig _ | .rSetdp _ _ | .rSetled _ _ | .rGetledm | .rPhys _ => true
  | .beginId _ _ _ _ | .beginMap _ _ _ _ _ | .displayOff | .clear | .setBrightness _ | .test _ => true
  | .showByteBinary _ _ | .showChar _ _ _ | .showInt8 _ _ _ | .showInt12 _ _ _ | .showInt16 _ _ _ => true
  | .showLedsBinary _ _ | .setLed _ _ | .setDp _ _ | .readButtons => true

/-- BEGIN and BEGIN_MAP. -/
def isBegin : Instr → Bool
  | .beginId _ _ _ _ | .beginMap _ _ _ _ _ => true
  | .tStart | .tStop | .tWrbyte _ | .tRdbyte | .tWrcmd _ | .tDioIn | .tDioOut => false
  | .sEncode _ | .sRawenc _ => false
  | .rSetdig _ _ | .rGetdig _ | .rSetdp _ _ | .rSetled _ _ | .rGetledm | .rPhys _ => false
  | .displayOff | .clear | .setBrightness _ | .test _ => false
  | .showByteBinary _ _ | .showChar _ _ _ | .showInt8 _ _ _ | .showInt12 _ _ _ | .showInt16 _ _ _ => false
  | .showLedsBinary _ _ | .setLed _ _ | .setDp _ _ | .readButtons => false
  | .wDataAuto _ | .wDataRead _ | .wDataFixed _ | .wDispOff _ | .wDispOn _ _ | .wAddr _ _ => false

/-- Family D other than BEGIN and BEGIN_MAP: the requests R170 speaks of. -/
def isDisplay : Instr → Bool
  | .displayOff | .clear | .setBrightness _ | .test _ => true
  | .showByteBinary _ _ | .showChar _ _ _ | .showInt8 _ _ _ | .showInt12 _ _ _ | .showInt16 _ _ _ => true
  | .showLedsBinary _ _ | .setLed _ _ | .setDp _ _ | .readButtons => true
  | .tStart | .tStop | .tWrbyte _ | .tRdbyte | .tWrcmd _ | .tDioIn | .tDioOut => false
  | .sEncode _ | .sRawenc _ => false
  | .rSetdig _ _ | .rGetdig _ | .rSetdp _ _ | .rSetled _ _ | .rGetledm | .rPhys _ => false
  | .beginId _ _ _ _ | .beginMap _ _ _ _ _ => false
  | .wDataAuto _ | .wDataRead _ | .wDataFixed _ | .wDispOff _ | .wDispOn _ _ | .wAddr _ _ => false

/-- Family T, the raw transport requests (R110). -/
def isTransport : Instr → Bool
  | .tStart | .tStop | .tWrbyte _ | .tRdbyte | .tWrcmd _ | .tDioIn | .tDioOut => true
  | .sEncode _ | .sRawenc _ => false
  | .rSetdig _ _ | .rGetdig _ | .rSetdp _ _ | .rSetled _ _ | .rGetledm | .rPhys _ => false
  | .beginId _ _ _ _ | .beginMap _ _ _ _ _ | .displayOff | .clear | .setBrightness _ | .test _ => false
  | .showByteBinary _ _ | .showChar _ _ _ | .showInt8 _ _ _ | .showInt12 _ _ _ | .showInt16 _ _ _ => false
  | .showLedsBinary _ _ | .setLed _ _ | .setDp _ _ | .readButtons => false
  | .wDataAuto _ | .wDataRead _ | .wDataFixed _ | .wDispOff _ | .wDispOn _ _ | .wAddr _ _ => false

/-- R265, R266: the requests after which shadow and far end may differ: raw transport requests, the register-file writes, and TEST 1. -/
def bypasses : Instr → Bool
  | .tStart | .tStop | .tWrbyte _ | .tRdbyte | .tWrcmd _ | .tDioIn | .tDioOut => true
  | .rSetdig _ _ | .rSetdp _ _ | .rSetled _ _ => true
  | .test enable => enable
  | .sEncode _ | .sRawenc _ | .rGetdig _ | .rGetledm | .rPhys _ => false
  | .beginId _ _ _ _ | .beginMap _ _ _ _ _ | .displayOff | .clear | .setBrightness _ => false
  | .showByteBinary _ _ | .showChar _ _ _ | .showInt8 _ _ _ | .showInt12 _ _ _ | .showInt16 _ _ _ => false
  | .showLedsBinary _ _ | .setLed _ _ | .setDp _ _ | .readButtons => false
  | .wDataAuto _ | .wDataRead _ | .wDataFixed _ | .wDispOff _ | .wDispOn _ _ | .wAddr _ _ => true

/-! ### Events of the frame procedures, written out from their traces -/

/-- R119: `S b P`. -/
def commandEvents (b : Byte) : List Event := [.start, .tx b, .stop]

/-- R122: `S 44 P S (C0|s) d P`. -/
def fixedEvents (slot : Slot) (d : Byte) : List Event :=
  [.start, .tx 0x44#8, .stop, .start, .tx (0xC0#8 ||| slot.setWidth 8), .tx d, .stop]

/-- R123: `S 40 P S C0 d0 ... dn-1 P`. -/
def autoEvents (ds : List Byte) : List Event :=
  [.start, .tx 0x40#8, .stop, .start, .tx 0xC0#8] ++ ds.map .tx ++ [.stop]

/-- R124: `S 42 I r:b0 r:b1 r:b2 r:b3 O P`. -/
def keyScanEvents (b0 b1 b2 b3 : Byte) : List Event :=
  [.start, .tx 0x42#8, .dirIn, .rx b0, .rx b1, .rx b2, .rx b3, .dirOut, .stop]

/-- R188: what a sequencer request emits, one shape after another: a display command, a fixed-address write, an auto-increment write, a key scan. -/
inductive Shape where
  | command (c : Byte)
  | fixed (slot : Slot) (d : Byte)
  | auto (ds : List Byte)
  | scan (b0 b1 b2 b3 : Byte)

/-- The events of a shape. -/
def Shape.events : Shape → List Event
  | .command c => commandEvents c
  | .fixed slot d => fixedEvents slot d
  | .auto ds => autoEvents ds
  | .scan b0 b1 b2 b3 => keyScanEvents b0 b1 b2 b3

/-- R188: the display commands are 0x80 and 0x88..0x8F, and an auto-increment write sends 2M bytes, M in 1..8. -/
def Shape.legal : Shape → Prop
  | .command c => c = 0x80#8 ∨ (0x88 ≤ c.toNat ∧ c.toNat ≤ 0x8F)
  | .fixed _ _ => True
  | .auto ds => ∃ m, 1 ≤ m ∧ m ≤ 8 ∧ ds.length = 2 * m
  | .scan _ _ _ _ => True

/-! ### Effects of the sequencer requests, written from their rules -/

/-- The state a request leaves that raises `c` after reaching `u` (R233). -/
def faulted (i : Instr) (c : FaultCode) (u : State) : State := { u with fault := some ⟨c, (encode i).bytes⟩ }

/-- R170: how the first frame of a request faults from an abnormal start, `u` being the state before it: FRAME_NEST with nothing sent, or DIR_MISMATCH after its `Start`. -/
def firstFrameFault (i : Instr) (u : State) : State :=
  if u.inFrame then faulted i .frameNest u
  else faulted i .dirMismatch { u with inFrame := true, wire := u.wire.emits [.start] }

/-- What a sequencer request does (R170 and the request's own rule): without INIT it faults; where it sends nothing it is a no-op; from a ready state it writes the shadow, emits its events and completes; from an abnormal start it faults in its first frame, with what it wrote before. -/
def SequencerContract (i : Instr) (sends : State → Prop) (before after : State → State)
    (events : State → List Event) : Prop :=
  ∀ s : State, s.fault = none →
    (s.init = false → exec i s = .next (faulted i .notInitialized s)) ∧
    (s.init = true → ¬ sends s → exec i s = .next s) ∧
    (s.Ready → sends s → exec i s = .next { after s with wire := s.wire.emits (events s) }) ∧
    (s.Abnormal → sends s → exec i s = .next (firstFrameFault i (before s)))

/-- R180: the shadow after values L are shown from digit d on: SEG of digit d + j shows L[j], every DP and every other digit is kept. -/
def digitsShown (dig : Vector Byte 8) (d : Nat) (L : List Nat) : Vector Byte 8 :=
  Vector.ofFn fun k : Index =>
    if d ≤ k.val ∧ k.val < d + L.length then
      mergeSeg dig[k] (segEncode (BitVec.ofNat 8 (L.getD (k.val - d) 0)))
    else dig[k]

/-- R180, D18: one fixed-address write for each digit shown, in increasing order. -/
def digitsEvents (s : State) (d : Nat) (L : List Nat) : List Event :=
  ((List.finRange 8).filter fun k => d ≤ k.val && k.val < d + L.length).flatMap fun k =>
    fixedEvents (BitVec.ofNat 4 (2 * (s.dmap[k]).toNat)) (digitsShown s.dig d L)[k]

/-- R179 to R183: the shadow before the first frame of a number: its first digit is written. -/
def firstDigitShown (s : State) (d : Nat) (L : List Nat) : State :=
  { s with dig := digitsShown s.dig d (L.take 1) }

/-- R178, R180 to R183: the contract of a request that shows values L from digit d when `sends`. -/
def NumberContract (i : Instr) (d : Nat) (L : List Nat) (sends : State → Prop) : Prop :=
  SequencerContract i sends (fun s => firstDigitShown s d L)
    (fun s => { s with dig := digitsShown s.dig d L }) (fun s => digitsEvents s d L)

/-- R175: the shadow after CLEAR: configured digits 0x00, LED bits below both counts 0. -/
def cleared (s : State) : State :=
  { s with
    dig := Vector.ofFn fun k : Index => if k.val < s.numDigits.val then 0x00#8 else s.dig[k]
    ledm := s.ledm &&& (0xFF#8 <<< min s.numDigits.val s.numLeds.val) }

/-- R175: the trace of CLEAR. -/
def clearEvents (s : State) : List Event :=
  ((List.finRange 8).filter fun k => k.val < s.numDigits.val).flatMap fun k =>
    (if k.val < s.numLeds.val then fixedEvents (BitVec.ofNat 4 (2 * (s.dmap[k]).toNat + 1)) 0x00#8 else []) ++
    fixedEvents (BitVec.ofNat 4 (2 * (s.dmap[k]).toNat)) (s.dig[k] &&& 0x80#8) ++
    fixedEvents (BitVec.ofNat 4 (2 * (s.dmap[k]).toNat)) 0x00#8

/-- R175: the shadow before the first frame of CLEAR: LED 0 off, or without LEDs the segments of digit 0 off. -/
def clearStarted (s : State) : State :=
  if s.numLeds.val = 0 then { s with dig := s.dig.set 0 (s.dig[0] &&& 0x80#8) }
  else { s with ledm := s.ledm &&& 0xFE#8 }

/-- R171: what BEGIN records, with digit map `dmap`, and the lines configured. -/
def begun (nb nl nd : Byte) (dmap : Vector Position 8) (s : State) : State :=
  { s with
    numButtons := clampFeature nb, numLeds := clampFeature nl, numDigits := clampDigits nd,
    dmap := dmap, pinsCfg := true, dioDir := .out, init := true, wire := s.wire.emits [.dirOut] }

/-- R171: BEGIN from a state with no frame open. -/
def beginDone (nb nl nd br : Byte) (dmap : Vector Position 8) (s : State) : State :=
  { cleared (begun nb nl nd dmap s) with
    bright := br.setWidth 3
    wire := s.wire.emits
      ([.dirOut] ++ clearEvents (begun nb nl nd dmap s) ++ commandEvents (0x88#8 ||| (br &&& 0x07#8))) }

/-- R177: the bytes of TEST 0: for each position p below M, the digit byte and the LED byte of the logical digit shown there. -/
def restoreBytes (s : State) : List Byte :=
  ((List.finRange 8).filter fun p => p.val < max s.numDigits.val s.numLeds.val).flatMap fun p =>
    [s.dig[inverseMap s.dmap p], if s.ledm.getLsbD (inverseMap s.dmap p).val then 0x01#8 else 0x00#8]

end Sys2Proof.Machine
end

