-- ==== Sys2Proof/Certificates/Slice0/Obligations.lean ====
section
/-! DEFINITION. The statements for the provers. -/

open Sys2Proof Sys2Proof.Machine

/-! ### Encoding -/

/-- R90, R93, R96, R103: the words of every well-formed instruction decode to it, every operand at every value; a request with any bytes after it leaves them. -/
def Obligations.DecodeOfEncodeIsTheInstruction : Prop :=
  ∀ i : Instr, i.wf = true →
    decodeCode (encode i) = some i ∧
    (isRequest i = true → ∀ rest, decodeRequest ((encode i).bytes ++ rest) = .request i rest)

/-- R93, R95: what a decoder accepts is the encoding of a well-formed instruction, and nothing of it is dropped. -/
def Obligations.DecodedWordsAreTheEncoding : Prop :=
  (∀ bytes i rest, decodeRequest bytes = .request i rest →
    i.wf = true ∧ isRequest i = true ∧ bytes = (encode i).bytes ++ rest) ∧
  (∀ f i, decodeFrame f = some i → isRequest i = false ∧ encode i = .frame f)

/-- R94: an unassigned opcode faults ILLEGAL_REQUEST and is one byte long; a BOOL byte other than 0x00 and 0x01 faults ILLEGAL_OPERAND; nothing else is written. -/
def Obligations.IllegalEncodingsFault : Prop :=
  ∀ s : State, s.fault = none → s.wire.pending = [] →
    (∀ (op : Byte) (rest : List Byte),
      (op.toNat = 0x00 ∨ (0x08 ≤ op.toNat ∧ op.toNat ≤ 0x0F) ∨ (0x12 ≤ op.toNat ∧ op.toNat ≤ 0x1F) ∨
        (0x26 ≤ op.toNat ∧ op.toNat ≤ 0x2F) ∨ 0x3F ≤ op.toNat) →
      s.requests = op :: rest →
      step s = .next { s with requests := rest, fault := some ⟨.illegalRequest, [op]⟩ }) ∧
    (∀ (head : List Byte) (x : Byte) (rest : List Byte),
      (head = [0x35#8] ∨
        (∃ op a : Byte, head = [op, a] ∧
          (op = 0x22#8 ∨ op = 0x23#8 ∨ op = 0x36#8 ∨ op = 0x3B#8 ∨ op = 0x3C#8 ∨ op = 0x3D#8)) ∨
        (∃ op a b : Byte, head = [op, a, b] ∧ (op = 0x37#8 ∨ op = 0x38#8)) ∨
        (∃ op a b c : Byte, head = [op, a, b, c] ∧ (op = 0x39#8 ∨ op = 0x3A#8))) →
      x ≠ 0x00#8 → x ≠ 0x01#8 → s.requests = head ++ x :: rest →
      step s = .next { s with requests := rest, fault := some ⟨.illegalOperand, head ++ [x]⟩ })

/-- R95: a stream that ends within a request is incomplete, and the block waits. -/
def Obligations.IncompleteRequestsWait : Prop :=
  (∀ i : Instr, i.wf = true → isRequest i = true → ∀ n, n < (encode i).bytes.length →
    decodeRequest ((encode i).bytes.take n) = .incomplete) ∧
  (∀ s : State, s.fault = none → s.wire.pending = [] → decodeRequest s.requests = .incomplete → step s = .next s)

/-- R93, R103: words written out from the opcode map and from R96 to R98. -/
def Obligations.SampleWordsDecode : Prop :=
  decodeRequest [0x03#8, 0x42#8] = .request (.tWrbyte 0x42#8) [] ∧
  decodeRequest [0x10#8, 0x2F#8] = .request (.sEncode 47#8) [] ∧
  decodeRequest [0x20#8, 0x03#8, 0x5B#8] = .request (.rSetdig 3#8 0x5B#8) [] ∧
  decodeRequest [0x3A#8, 0x00#8, 0xAF#8, 0x12#8, 0x00#8] = .request (.showInt16 0#8 0x12AF#16 false) [] ∧
  decodeFrame ⟨[0x8A#8], 0⟩ = some (.wDispOn 2#3 ⟨[], 0⟩) ∧
  decodeFrame ⟨[0xC6#8, 0x06#8], 0⟩ = some (.wAddr 6#4 ⟨[0x06#8], 0⟩)

/-! ### Steps -/

/-- R62: the block takes the host's next request and runs it. -/
def Obligations.StepRunsTheDecodedRequest : Prop :=
  ∀ (s : State) (i : Instr) (rest : List Byte),
    s.wire.pending = [] → s.fault = none → decodeRequest s.requests = .request i rest →
    step s = exec i { s with requests := rest }

/-- R71, R78, R81, R118 (log 12): the far end reads its oldest frame, which is to run the wire command the frame opens with; a frame that opens with none changes nothing when it is empty and havocs otherwise, one that reads and sends nothing too (log 16). -/
def Obligations.StepReadsTheOldestFrame : Prop :=
  ∀ (s : State) (f : Frame) (fs : List Frame), s.wire.pending = f :: fs →
    (∀ i, decodeFrame f = some i → step s = exec i { s with wire := { s.wire with pending := fs } }) ∧
    (decodeFrame f = none →
      step s = .next { s with
        wire := { s.wire with pending := fs }
        farEnd := if f = ⟨[], 0⟩ then s.farEnd else .unknown }) ∧
    step s = .next { s with wire := { s.wire with pending := fs }, farEnd := s.farEnd.read f }

/-- R234: with FAULT set every request is refused without effect, BEGIN too, and the block takes no further step. -/
def Obligations.FaultedBlockRefusesEveryRequest : Prop :=
  ∀ (s : State) (r : FaultRecord), s.fault = some r →
    (∀ i, isRequest i = true → exec i s = .fault (.latched r.code)) ∧
    (s.wire.pending = [] → step s = .fault (.latched r.code))

/-- R2, R40, R68: a request does not touch the far end or the host's stream, and only hands frames over; a wire command touches nothing but the far end. -/
def Obligations.AgentsTouchOnlyTheirOwnState : Prop :=
  ∀ (i : Instr) (s t : State), exec i s = .next t →
    (isRequest i = true → t.farEnd = s.farEnd ∧ t.requests = s.requests ∧ s.wire.pending <+: t.wire.pending) ∧
    (isRequest i = false → t = { s with farEnd := t.farEnd })

/-- R37, R13: the trace only grows, and so do the responses. -/
def Obligations.TraceAndResponsesOnlyGrow : Prop :=
  ∀ s t : State, step s = .next t → s.wire.trace <+: t.wire.trace ∧ s.responses <+: t.responses

/-- R13, R37, R71: events join the trace in order, and a whole frame hands to the far end the bytes it sent and the number of its reads. -/
def Obligations.FramesReachTheFarEnd : Prop :=
  (∀ (w : Wire) (es : List Event), (w.emits es).trace = w.trace ++ es) ∧
  (∀ (w : Wire) (body : List Event), Event.start ∉ body → Event.stop ∉ body →
    (w.emits (.start :: body ++ [.stop])).pending = w.pending ++
      [⟨body.filterMap fun e => match e with | .tx b => some b | _ => none,
        (body.filter fun e => match e with | .rx _ => true | _ => false).length⟩])

/-! ### Transport -/

/-- R115. -/
def Obligations.TStartOpensATransaction : Prop :=
  ∀ s : State, s.fault = none →
    (encode .tStart).bytes = [0x01#8] ∧
    (s.pinsCfg = false → exec .tStart s = .next (faulted .tStart .notInitialized s)) ∧
    (s.pinsCfg = true → s.inFrame = true → exec .tStart s = .next (faulted .tStart .frameNest s)) ∧
    (s.pinsCfg = true → s.inFrame = false →
      exec .tStart s = .next { s with inFrame := true, wire := s.wire.emits [.start] })

/-- R116; the far end reads a frame that carries nothing without effect. -/
def Obligations.TStopClosesATransaction : Prop :=
  ∀ s : State, s.fault = none →
    (encode .tStop).bytes = [0x02#8] ∧
    (s.pinsCfg = false → exec .tStop s = .next (faulted .tStop .notInitialized s)) ∧
    (s.pinsCfg = true → s.inFrame = false → exec .tStop s = .next (faulted .tStop .noFrame s)) ∧
    (s.pinsCfg = true → s.inFrame = true →
      exec .tStop s = .next { s with inFrame := false, wire := s.wire.emits [.stop] }) ∧
    (∀ e : FarEnd, e.read ⟨[], 0⟩ = e)

/-- R117. -/
def Obligations.TWrbyteShiftsAByteOut : Prop :=
  ∀ (s : State) (b : Byte), s.fault = none →
    (encode (.tWrbyte b)).bytes = [0x03#8, b] ∧
    (s.pinsCfg = false → exec (.tWrbyte b) s = .next (faulted (.tWrbyte b) .notInitialized s)) ∧
    (s.pinsCfg = true → s.inFrame = false → exec (.tWrbyte b) s = .next (faulted (.tWrbyte b) .noFrame s)) ∧
    (s.pinsCfg = true → s.inFrame = true → s.dioDir = .in_ →
      exec (.tWrbyte b) s = .next (faulted (.tWrbyte b) .dirMismatch s)) ∧
    (s.pinsCfg = true → s.inFrame = true → s.dioDir = .out →
      exec (.tWrbyte b) s = .next { s with wire := s.wire.emits [.tx b] })

/-- R118: the byte is a draw, the response is that byte, and the next draw is another; a read in a frame that 0x42 did not open havocs the far end. -/
def Obligations.TRdbyteShiftsADrawIn : Prop :=
  ∀ s : State, s.fault = none →
    (encode .tRdbyte).bytes = [0x04#8] ∧
    (s.pinsCfg = false → exec .tRdbyte s = .next (faulted .tRdbyte .notInitialized s)) ∧
    (s.pinsCfg = true → s.inFrame = false → exec .tRdbyte s = .next (faulted .tRdbyte .noFrame s)) ∧
    (s.pinsCfg = true → s.inFrame = true → s.dioDir = .out →
      exec .tRdbyte s = .next (faulted .tRdbyte .dirMismatch s)) ∧
    (s.pinsCfg = true → s.inFrame = true → s.dioDir = .in_ →
      exec .tRdbyte s = .next { s with
        draws := s.draws + 1
        wire := s.wire.emits [.rx (Config.keyScanByte s.draws)]
        responses := s.responses ++ [Config.keyScanByte s.draws] }) ∧
    (∀ (f : Frame) (e : FarEnd), f.reads ≠ 0 → f.sent.head? ≠ some 0x42#8 → e.read f = .unknown)

/-- R119: start, one byte, stop; with the data line as input the `Start` is already emitted when it faults. -/
def Obligations.TWrcmdSendsAOneByteTransaction : Prop :=
  ∀ (s : State) (b : Byte), s.fault = none →
    (encode (.tWrcmd b)).bytes = [0x05#8, b] ∧
    (s.pinsCfg = false → exec (.tWrcmd b) s = .next (faulted (.tWrcmd b) .notInitialized s)) ∧
    (s.pinsCfg = true → s.inFrame = true → exec (.tWrcmd b) s = .next (faulted (.tWrcmd b) .frameNest s)) ∧
    (s.pinsCfg = true → s.inFrame = false → s.dioDir = .in_ →
      exec (.tWrcmd b) s = .next
        (faulted (.tWrcmd b) .dirMismatch { s with inFrame := true, wire := s.wire.emits [.start] })) ∧
    (s.pinsCfg = true → s.inFrame = false → s.dioDir = .out →
      exec (.tWrcmd b) s = .next { s with wire := s.wire.emits [.start, .tx b, .stop] })

/-- R120, R121: in or out of a frame, whatever the direction was. -/
def Obligations.TDioRequestsSetTheDirection : Prop :=
  ∀ s : State, s.fault = none →
    (encode .tDioIn).bytes = [0x06#8] ∧
    (encode .tDioOut).bytes = [0x07#8] ∧
    (s.pinsCfg = false →
      exec .tDioIn s = .next (faulted .tDioIn .notInitialized s) ∧
      exec .tDioOut s = .next (faulted .tDioOut .notInitialized s)) ∧
    (s.pinsCfg = true →
      exec .tDioIn s = .next { s with dioDir := .in_, wire := s.wire.emits [.dirIn] } ∧
      exec .tDioOut s = .next { s with dioDir := .out, wire := s.wire.emits [.dirOut] })

/-- R114: slot k carries bit k, and a receiver that assembles the levels the same way recovers the byte. -/
def Obligations.BitsGoLeastSignificantFirst : Prop :=
  ∀ b : Byte, txLevels b = [b.getLsbD 0, b.getLsbD 1, b.getLsbD 2, b.getLsbD 3,
      b.getLsbD 4, b.getLsbD 5, b.getLsbD 6, b.getLsbD 7] ∧
    rxAssemble (txLevels b) = b.toNat

/-- R33: the strobe is low in a frame, and high outside one once a `Stop` has been emitted. -/
def Obligations.StrobeFollowsTheFrame : Prop :=
  ∀ s : State, (s.inFrame = true → s.strobeHigh = false) ∧
    (s.inFrame = false → Event.stop ∈ s.wire.trace → s.strobeHigh = true)

/-! ### Codec -/

/-- R142, R143: S_ENCODE answers the table entry, blank beyond the table; S_RAWENC answers its operand less bit 7. -/
def Obligations.CodecRequestsAnswerThePattern : Prop :=
  ∀ (s : State) (x : Byte), s.fault = none →
    (encode (.sEncode x)).bytes = [0x10#8, x] ∧
    (encode (.sRawenc x)).bytes = [0x11#8, x] ∧
    (∀ h : x.toNat < 47,
      exec (.sEncode x) s = .next { s with responses := s.responses ++ [(segTable ⟨x.toNat, h⟩).setWidth 8] }) ∧
    (47 ≤ x.toNat → exec (.sEncode x) s = .next { s with responses := s.responses ++ [0x00#8] }) ∧
    exec (.sRawenc x) s = .next { s with responses := s.responses ++ [x &&& 0x7F#8] }

/-- R140: P2 and P5, for every value of the free entries (log 7; P1 and P3 hold by type, P4 names glyphs and gives no value). -/
def Obligations.SegmentTableHasItsProperties : Prop :=
  segTable 32 = 0#7 ∧
  ∃ base, base ≤ 40 ∧ ∀ (k : Nat) (h : base + k < 47), k < 7 → segTable ⟨base + k, h⟩ = 1#7 <<< k

/-- R144. -/
def Obligations.CodecNeverTouchesTheDecimalPoint : Prop :=
  ∀ x : Byte, (segEncode x).toNat < 0x80 ∧ (rawEncode x).toNat < 0x80 ∧
    (47 ≤ x.toNat → segEncode x = segEncode 32#8) ∧
    rawEncode (rawEncode x) = rawEncode x ∧ (rawEncode x = x ↔ x.toNat < 0x80)

/-! ### Register file -/

/-- R151. -/
def Obligations.RSetdigWritesAWholeByte : Prop :=
  ∀ (s : State) (i b : Byte), s.fault = none →
    (encode (.rSetdig i b)).bytes = [0x20#8, i, b] ∧
    (8 ≤ i.toNat → exec (.rSetdig i b) s = .next (faulted (.rSetdig i b) .indexRange s)) ∧
    (∀ k : Index, k.val = i.toNat → exec (.rSetdig i b) s = .next { s with dig := s.dig.set k.val b })

/-- R152, R155: reads of the shadow answer it and change nothing else. -/
def Obligations.ShadowReadsAnswerTheShadow : Prop :=
  ∀ (s : State) (i : Byte), s.fault = none →
    (encode (.rGetdig i)).bytes = [0x21#8, i] ∧
    (encode .rGetledm).bytes = [0x24#8] ∧
    (8 ≤ i.toNat → exec (.rGetdig i) s = .next (faulted (.rGetdig i) .indexRange s)) ∧
    (∀ k : Index, k.val = i.toNat → exec (.rGetdig i) s = .next { s with responses := s.responses ++ [s.dig[k]] }) ∧
    exec .rGetledm s = .next { s with responses := s.responses ++ [s.ledm] }

/-- R153: bit 7 becomes `on`, bits 6:0 stay. -/
def Obligations.RSetdpWritesBitSevenOnly : Prop :=
  ∀ (s : State) (i : Byte) (on : Bool), s.fault = none →
    (encode (.rSetdp i on)).bytes = [0x22#8, i, if on then 0x01#8 else 0x00#8] ∧
    (8 ≤ i.toNat → exec (.rSetdp i on) s = .next (faulted (.rSetdp i on) .indexRange s)) ∧
    (∀ k : Index, k.val = i.toNat →
      ∃ b : Byte, b.getLsbD 7 = on ∧ (∀ j, j < 7 → b.getLsbD j = (s.dig[k]).getLsbD j) ∧
        exec (.rSetdp i on) s = .next { s with dig := s.dig.set k.val b })

/-- R154: one bit of the mask, whatever NUM_LEDS is. -/
def Obligations.RSetledWritesOneBit : Prop :=
  ∀ (s : State) (i : Byte) (on : Bool), s.fault = none →
    (encode (.rSetled i on)).bytes = [0x23#8, i, if on then 0x01#8 else 0x00#8] ∧
    (8 ≤ i.toNat → exec (.rSetled i on) s = .next (faulted (.rSetled i on) .indexRange s)) ∧
    (∀ k : Index, k.val = i.toNat →
      ∃ m : Byte, (∀ j, j < 8 → m.getLsbD j = if j = k.val then on else s.ledm.getLsbD j) ∧
        exec (.rSetled i on) s = .next { s with ledm := m })

/-- R156, R235: NOT_INITIALIZED comes before INDEX_RANGE. -/
def Obligations.RPhysAnswersThePosition : Prop :=
  ∀ (s : State) (l : Byte), s.fault = none →
    (encode (.rPhys l)).bytes = [0x25#8, l] ∧
    (s.init = false → exec (.rPhys l) s = .next (faulted (.rPhys l) .notInitialized s)) ∧
    (s.init = true → 8 ≤ l.toNat → exec (.rPhys l) s = .next (faulted (.rPhys l) .indexRange s)) ∧
    (s.init = true → ∀ k : Index, k.val = l.toNat →
      exec (.rPhys l) s = .next { s with responses := s.responses ++ [(s.dmap[k]).setWidth 8] })

/-- R157: the merge formulas and their laws. -/
def Obligations.MergesKeepTheOtherField : Prop :=
  ∀ (old pat : Byte) (on : Bool),
    mergeSeg old pat = (pat &&& 0x7F#8) ||| (old &&& 0x80#8) ∧
    mergeDp old on = (old &&& 0x7F#8) ||| (if on then 0x80#8 else 0x00#8) ∧
    mergeDp (mergeSeg old pat) on = mergeSeg (mergeDp old on) pat ∧
    (mergeSeg old pat).getLsbD 7 = old.getLsbD 7 ∧
    (∀ k, k < 7 → (mergeDp old on).getLsbD k = old.getLsbD k)

/-- R158, R98: slots lie in 0..15, and the wire address byte is `0xC0 | slot`. -/
def Obligations.SlotsFollowTheDigitMap : Prop :=
  ∀ (s : State) (l : Index),
    (segSlot s l).toNat = 2 * (s.dmap[l]).toNat ∧ (ledSlot s l).toNat = 2 * (s.dmap[l]).toNat + 1 ∧
    (∀ slot : Slot, (WireCmd.addr slot).byte.toNat = 0xC0 + slot.toNat)

/-! ### Sequencer: initialisation and display control -/

/-- R173. -/
def Obligations.CountsAreClamped : Prop :=
  ∀ n : Byte,
    (clampDigits n).val = (if n.toNat = 0 then 1 else if 8 < n.toNat then 8 else n.toNat) ∧
    (clampFeature n).val = (if 8 < n.toNat then 0 else n.toNat) ∧
    1 ≤ (clampDigits n).val ∧ (clampDigits n).val ≤ 8 ∧ (clampFeature n).val ≤ 8

/-- R171, R262, R263: BEGIN configures with the identity map, clears the configured digits and turns the display on; with a frame left open it faults in CLEAR's first frame, after what it wrote. -/
def Obligations.BeginConfiguresAndClears : Prop :=
  ∀ (s : State) (nb nl nd br : Byte), s.fault = none →
    (encode (.beginId nb nl nd br)).bytes = [0x30#8, nb, nl, nd, br] ∧
    (s.inFrame = false →
      exec (.beginId nb nl nd br) s =
        .next (beginDone nb nl nd br #v[0#3, 1#3, 2#3, 3#3, 4#3, 5#3, 6#3, 7#3] s)) ∧
    (s.inFrame = true →
      exec (.beginId nb nl nd br) s =
        .next (faulted (.beginId nb nl nd br) .frameNest
          (clearStarted (begun nb nl nd #v[0#3, 1#3, 2#3, 3#3, 4#3, 5#3, 6#3, 7#3] s))))

/-- R172: a map that is no permutation of 0..7 faults before any state is written; otherwise as BEGIN, with the supplied map. -/
def Obligations.BeginMapChecksThenBegins : Prop :=
  ∀ (s : State) (nb nl nd br : Byte) (map : List Byte), s.fault = none → map.length = 8 →
    (encode (.beginMap nb nl nd br map)).bytes = [0x31#8, nb, nl, nd, br] ++ map ∧
    (¬ ((∀ m ∈ map, m.toNat < 8) ∧ map.Nodup) →
      exec (.beginMap nb nl nd br map) s = .next (faulted (.beginMap nb nl nd br map) .dmapInvalid s)) ∧
    ((∀ m ∈ map, m.toNat < 8) → map.Nodup →
      ∀ dmap : Vector Position 8, (∀ l : Index, some ((dmap[l]).setWidth 8) = map[l.val]?) →
        (s.inFrame = false →
          exec (.beginMap nb nl nd br map) s = .next (beginDone nb nl nd br dmap s)) ∧
        (s.inFrame = true →
          exec (.beginMap nb nl nd br map) s =
            .next (faulted (.beginMap nb nl nd br map) .frameNest (clearStarted (begun nb nl nd dmap s)))))

/-- R174: `S 80 P`; the shadow and BRIGHT are kept. -/
def Obligations.DisplayOffSendsItsCommand : Prop :=
  (encode .displayOff).bytes = [0x32#8] ∧
  SequencerContract .displayOff (fun _ => True) id id (fun _ => commandEvents 0x80#8)

/-- R175: what is cleared, in what order it is sent, and what is left alone. -/
def Obligations.ClearBlanksTheConfiguredDigits : Prop :=
  (encode .clear).bytes = [0x33#8] ∧
  SequencerContract .clear (fun s => s.numDigits.val ≠ 0) clearStarted cleared clearEvents

/-- R176: masked, not clamped; BRIGHT is written before the frame. -/
def Obligations.SetBrightnessMasksAndTurnsOn : Prop :=
  ∀ level : Byte,
    (encode (.setBrightness level)).bytes = [0x34#8, level] ∧
    SequencerContract (.setBrightness level) (fun _ => True)
      (fun s => { s with bright := level.setWidth 3 }) (fun s => { s with bright := level.setWidth 3 })
      (fun _ => commandEvents (0x88#8 ||| (level &&& 0x07#8)))

/-- R177: TEST 1 lights M positions, TEST 0 restores them from the shadow through the inverse map; the shadow is unchanged. -/
def Obligations.TestLightsOrRestoresEveryPosition : Prop :=
  (encode (.test true)).bytes = [0x35#8, 0x01#8] ∧ (encode (.test false)).bytes = [0x35#8, 0x00#8] ∧
  SequencerContract (.test true) (fun _ => True) id id
    (fun s => autoEvents ((List.replicate (max s.numDigits.val s.numLeds.val) [0xFF#8, 0x01#8]).flatten)) ∧
  SequencerContract (.test false) (fun _ => True) id id (fun s => autoEvents (restoreBytes s)) ∧
  (∀ dmap, Permutation dmap → ∀ p : Index, (dmap[inverseMap dmap p]).toNat = p.val)

/-! ### Sequencer: digits -/

/-- R178. -/
def Obligations.ShowByteBinaryShowsEightBits : Prop :=
  ∀ v : Byte,
    (encode (.showByteBinary v true)).bytes = [0x36#8, v, 0x01#8] ∧ (encode (.showByteBinary v false)).bytes = [0x36#8, v, 0x00#8] ∧
    NumberContract (.showByteBinary v true) 0
      [(v.getLsbD 0).toNat, (v.getLsbD 1).toNat, (v.getLsbD 2).toNat, (v.getLsbD 3).toNat,
        (v.getLsbD 4).toNat, (v.getLsbD 5).toNat, (v.getLsbD 6).toNat, (v.getLsbD 7).toNat]
      (fun s => 8 ≤ s.numDigits.val) ∧
    NumberContract (.showByteBinary v false) 0
      [(v.getLsbD 7).toNat, (v.getLsbD 6).toNat, (v.getLsbD 5).toNat, (v.getLsbD 4).toNat,
        (v.getLsbD 3).toNat, (v.getLsbD 2).toNat, (v.getLsbD 1).toNat, (v.getLsbD 0).toNat]
      (fun s => 8 ≤ s.numDigits.val)

/-- R179: the byte sent is the whole merged byte. -/
def Obligations.ShowCharMergesAndSends : Prop :=
  ∀ (d v : Byte) (raw : Bool) (k : Index),
    (encode (.showChar d v raw)).bytes = [0x37#8, d, v, if raw then 0x01#8 else 0x00#8] ∧
    (k.val = d.toNat →
      SequencerContract (.showChar d v raw) (fun s => k.val < s.numDigits.val)
        (fun s => { s with dig := s.dig.set k.val (mergeSeg s.dig[k] (if raw then rawEncode v else segEncode v)) })
        (fun s => { s with dig := s.dig.set k.val (mergeSeg s.dig[k] (if raw then rawEncode v else segEncode v)) })
        (fun s => fixedEvents (segSlot s k) (mergeSeg s.dig[k] (if raw then rawEncode v else segEncode v)))) ∧
    (8 ≤ d.toNat → ∀ s : State, s.fault = none →
      (s.init = true → exec (.showChar d v raw) s = .next s) ∧
      (s.init = false → exec (.showChar d v raw) s = .next (faulted (.showChar d v raw) .notInitialized s)))

/-- R180: the digits are the base-ten and base-sixteen digits of the value, most significant first. -/
def Obligations.DigitsAreThoseOfTheValue : Prop :=
  (∀ v n : Nat, v < 10 ^ n →
    (decDigits v n).length = n ∧ (∀ x ∈ decDigits v n, x < 10) ∧
    (decDigits v n).foldl (fun acc x => 10 * acc + x) 0 = v) ∧
  (∀ v n : Nat, v < 16 ^ n →
    (hexDigits v n).length = n ∧ (∀ x ∈ hexDigits v n, x < 16) ∧
    (hexDigits v n).foldl (fun acc x => 16 * acc + x) 0 = v)

/-- R181: decimal clips to 99. -/
def Obligations.ShowInt8ShowsTwoDigits : Prop :=
  ∀ d v : Byte,
    (encode (.showInt8 d v true)).bytes = [0x38#8, d, v, 0x01#8] ∧ (encode (.showInt8 d v false)).bytes = [0x38#8, d, v, 0x00#8] ∧
    NumberContract (.showInt8 d v true) d.toNat [min v.toNat 99 / 10 % 10, min v.toNat 99 % 10]
      (fun s => 1 < s.numDigits.val ∧ d.toNat + 1 < s.numDigits.val) ∧
    NumberContract (.showInt8 d v false) d.toNat [v.toNat / 16, v.toNat % 16]
      (fun s => 1 < s.numDigits.val ∧ d.toNat + 1 < s.numDigits.val)

/-- R182: decimal clips to 999, hexadecimal to 0xFFF. -/
def Obligations.ShowInt12ShowsThreeDigits : Prop :=
  ∀ (d : Byte) (v : Half),
    (∃ lo hi : Byte, v.toNat = lo.toNat + 256 * hi.toNat ∧
      (encode (.showInt12 d v true)).bytes = [0x39#8, d, lo, hi, 0x01#8] ∧
      (encode (.showInt12 d v false)).bytes = [0x39#8, d, lo, hi, 0x00#8]) ∧
    NumberContract (.showInt12 d v true) d.toNat
      [min v.toNat 999 / 100 % 10, min v.toNat 999 / 10 % 10, min v.toNat 999 % 10]
      (fun s => 2 < s.numDigits.val ∧ d.toNat + 2 < s.numDigits.val) ∧
    NumberContract (.showInt12 d v false) d.toNat
      [min v.toNat 0xFFF / 256 % 16, min v.toNat 0xFFF / 16 % 16, min v.toNat 0xFFF % 16]
      (fun s => 2 < s.numDigits.val ∧ d.toNat + 2 < s.numDigits.val)

/-- R183: decimal clips to 9999, hexadecimal uses the full range. -/
def Obligations.ShowInt16ShowsFourDigits : Prop :=
  ∀ (d : Byte) (v : Half),
    (∃ lo hi : Byte, v.toNat = lo.toNat + 256 * hi.toNat ∧
      (encode (.showInt16 d v true)).bytes = [0x3A#8, d, lo, hi, 0x01#8] ∧
      (encode (.showInt16 d v false)).bytes = [0x3A#8, d, lo, hi, 0x00#8]) ∧
    NumberContract (.showInt16 d v true) d.toNat
      [min v.toNat 9999 / 1000 % 10, min v.toNat 9999 / 100 % 10, min v.toNat 9999 / 10 % 10, min v.toNat 9999 % 10]
      (fun s => 3 < s.numDigits.val ∧ d.toNat + 3 < s.numDigits.val) ∧
    NumberContract (.showInt16 d v false) d.toNat
      [v.toNat / 4096, v.toNat / 256 % 16, v.toNat / 16 % 16, v.toNat % 16]
      (fun s => 3 < s.numDigits.val ∧ d.toNat + 3 < s.numDigits.val)

/-! ### Sequencer: LEDs, decimal points, buttons -/

/-- R184: the mask becomes v, or v with its bits reversed; eight frames, LED 0 first. -/
def Obligations.ShowLedsBinarySetsEightLeds : Prop :=
  ∀ (v : Byte) (lsbFirst : Bool),
    (encode (.showLedsBinary v lsbFirst)).bytes = [0x3B#8, v, if lsbFirst then 0x01#8 else 0x00#8] ∧
    SequencerContract (.showLedsBinary v lsbFirst) (fun s => 8 ≤ s.numLeds.val)
      (fun s => { s with ledm := setBit s.ledm 0 (if lsbFirst then v.getLsbD 0 else v.getLsbD 7) })
      (fun s => { s with ledm := if lsbFirst then v else v.reverse })
      (fun s => (List.finRange 8).flatMap fun k =>
        fixedEvents (ledSlot s k)
          (if (if lsbFirst then v.getLsbD k.val else v.getLsbD (7 - k.val)) then 0x01#8 else 0x00#8))

/-- R185: one bit of the mask, and just that LED's byte. -/
def Obligations.SetLedWritesOneLed : Prop :=
  ∀ (i : Byte) (on : Bool) (k : Index),
    (encode (.setLed i on)).bytes = [0x3C#8, i, if on then 0x01#8 else 0x00#8] ∧
    (k.val = i.toNat →
      SequencerContract (.setLed i on) (fun s => k.val < s.numLeds.val)
        (fun s => { s with ledm := setBit s.ledm k on }) (fun s => { s with ledm := setBit s.ledm k on })
        (fun s => fixedEvents (ledSlot s k) (if on then 0x01#8 else 0x00#8))) ∧
    (8 ≤ i.toNat → ∀ s : State, s.fault = none →
      (s.init = true → exec (.setLed i on) s = .next s) ∧
      (s.init = false → exec (.setLed i on) s = .next (faulted (.setLed i on) .notInitialized s)))

/-- R186: the full digit byte is sent, segments unchanged. -/
def Obligations.SetDpWritesTheDecimalPoint : Prop :=
  ∀ (d : Byte) (on : Bool) (k : Index),
    (encode (.setDp d on)).bytes = [0x3D#8, d, if on then 0x01#8 else 0x00#8] ∧
    (k.val = d.toNat →
      SequencerContract (.setDp d on) (fun s => k.val < s.numDigits.val)
        (fun s => { s with dig := s.dig.set k.val (mergeDp s.dig[k] on) })
        (fun s => { s with dig := s.dig.set k.val (mergeDp s.dig[k] on) })
        (fun s => fixedEvents (segSlot s k) (mergeDp s.dig[k] on))) ∧
    (8 ≤ d.toNat → ∀ s : State, s.fault = none →
      (s.init = true → exec (.setDp d on) s = .next s) ∧
      (s.init = false → exec (.setDp d on) s = .next (faulted (.setDp d on) .notInitialized s)))

/-- R187, for every value of the four bytes drawn. -/
def Obligations.ReadButtonsCombinesFourBytes : Prop :=
  ∀ s : State, s.fault = none →
    (encode .readButtons).bytes = [0x3E#8] ∧
    (s.init = false → exec .readButtons s = .next (faulted .readButtons .notInitialized s)) ∧
    (s.init = true → s.numButtons.val = 0 →
      exec .readButtons s = .next { s with responses := s.responses ++ [0x00#8] }) ∧
    (s.Ready → s.numButtons.val ≠ 0 →
      ∀ b0 b1 b2 b3, b0 = Config.keyScanByte s.draws → b1 = Config.keyScanByte (s.draws + 1) →
        b2 = Config.keyScanByte (s.draws + 2) → b3 = Config.keyScanByte (s.draws + 3) →
        exec .readButtons s = .next { s with
          draws := s.draws + 4
          wire := s.wire.emits (keyScanEvents b0 b1 b2 b3)
          responses := s.responses ++ [b0 ||| (b1 <<< 1) ||| (b2 <<< 2) ||| (b3 <<< 3)] }) ∧
    (s.Abnormal → s.numButtons.val ≠ 0 → exec .readButtons s = .next (firstFrameFault .readButtons s))

/-! ### Sequencer: laws of the family -/

/-- R170: a sequencer request needs INIT, and one that completes leaves IN_FRAME and DIO_DIR as it found them, but for BEGIN and BEGIN_MAP, which set DIO_DIR to OUT. -/
def Obligations.SequencerKeepsFrameAndDirection : Prop :=
  ∀ (i : Instr) (s t : State), s.fault = none → exec i s = .next t →
    (isDisplay i = true → s.init = false → t = faulted i .notInitialized s) ∧
    (isDisplay i = true → t.fault = none → t.inFrame = s.inFrame ∧ t.dioDir = s.dioDir) ∧
    (isBegin i = true → t.fault = none → t.inFrame = s.inFrame ∧ t.dioDir = .out)

/-- R188: a sequencer request that completes emits only the frame shapes listed, after BEGIN's leading `O`; and the far end reads them without havoc: what it knew of the display and of every slot stays known. -/
def Obligations.SequencerEmitsOnlyListedShapes : Prop :=
  (∀ (i : Instr) (s t : State), s.fault = none →
    (isBegin i = true ∨ (isDisplay i = true ∧ 1 ≤ s.numDigits.val)) →
    exec i s = .next t → t.fault = none →
    ∃ shapes : List Shape, (∀ x ∈ shapes, x.legal) ∧
      t.wire = s.wire.emits ((if isBegin i then [.dirOut] else []) ++ shapes.flatMap Shape.events)) ∧
  (∀ (shapes : List Shape) (w : Wire) (e : FarEnd), (∀ x ∈ shapes, x.legal) → w.pending = [] →
    let e' := (w.emits (shapes.flatMap Shape.events)).pending.foldl FarEnd.read e
    (e.disp ≠ .unknown → e'.disp ≠ .unknown) ∧
    (∀ a : Fin 16, e.dram[a] ≠ .unknown → e'.dram[a] ≠ .unknown))

/-! ### Invariants -/

/-- R41, R37, R80: both invariants hold at reset. -/
def Obligations.InvariantsHoldAtReset : Prop := State.reset.ConfigInv ∧ State.reset.WireInv

/-- R41: every step keeps PINS_CFG equal to INIT, a digit configured and the map a permutation after BEGIN. -/
def Obligations.StepKeepsTheConfiguration : Prop :=
  ∀ s t : State, s.ConfigInv → step s = .next t → t.ConfigInv

/-- R33, R37, R71: every step keeps the far end the reference reading of the trace, and IN_FRAME the trace's open frame. -/
def Obligations.StepKeepsTheReading : Prop :=
  ∀ s t : State, s.WireInv → step s = .next t → t.WireInv

/-- R67, R265: BEGIN makes the far end mirror the shadow of the configured digits and LEDs, and no request but a bypassing one and TEST 1 ends it. -/
def Obligations.ShadowStaysAWriteThroughMirror : Prop :=
  ∀ (i : Instr) (s t : State), exec i s = .next t → t.fault = none →
    (isBegin i = true → s.inFrame = false → t.Mirrored) ∧
    (s.ConfigInv → s.inFrame = false → bypasses i = false → s.Mirrored → t.Mirrored)

/-- R266: TEST 1 then TEST 0 leaves the shadow as it was, and the far end, once it has read the frames, shows it again at every position below M. -/
def Obligations.TestRoundTripRestores : Prop :=
  ∀ s : State, s.Ready → s.ConfigInv →
    ∃ t u, exec (.test true) s = .next t ∧ exec (.test false) t = .next u ∧
      u = { s with wire := u.wire } ∧
      ∀ l : Index, (s.dmap[l]).toNat < max s.numDigits.val s.numLeds.val →
        u.settled.farEnd.dram[(2 * (s.dmap[l]).toNat)]? = some (.known s.dig[l]) ∧
        u.settled.farEnd.dram[(2 * (s.dmap[l]).toNat + 1)]? = some (.known (ledByte (s.ledm.getLsbD l.val)))

/-! ### Reset -/

/-- R260, R80: what the spec gives for reset. -/
def Obligations.ResetStartsUninitialised : Prop :=
  State.reset.init = false ∧ State.reset.pinsCfg = false ∧ State.reset.inFrame = false ∧
  (∀ i : Index, State.reset.dig[i] = 0x00#8) ∧ State.reset.ledm = 0x00#8 ∧ State.reset.fault = none ∧
  State.reset.wire.trace = [] ∧
  (∀ a : Fin 16, State.reset.farEnd.dram[a] = .unknown) ∧
  State.reset.farEnd.dmode = .unknown ∧ State.reset.farEnd.disp = .unknown

/-- R261: at reset the block waits, which the model takes as a step that leaves the state (log 1); codec and register-file requests with in-range operands complete, BEGIN, and BEGIN_MAP with a permutation; every transport request, every other sequencer request and R_PHYS fault NOT_INITIALIZED. -/
def Obligations.OnlySomeRequestsCompleteAtReset : Prop :=
  step .reset = .next .reset ∧
  (∀ i : Instr, isTransport i = true ∨ isDisplay i = true ∨ (∃ l, i = .rPhys l) →
    exec i .reset = .next (faulted i .notInitialized .reset)) ∧
  (∀ i : Instr,
    (∃ x, i = .sEncode x) ∨ (∃ x, i = .sRawenc x) ∨ (∃ k b : Byte, k.toNat < 8 ∧ i = .rSetdig k b) ∨
    (∃ k : Byte, k.toNat < 8 ∧ i = .rGetdig k) ∨ (∃ (k : Byte) (on : Bool), k.toNat < 8 ∧ i = .rSetdp k on) ∨
    (∃ (k : Byte) (on : Bool), k.toNat < 8 ∧ i = .rSetled k on) ∨ i = .rGetledm ∨
    (∃ nb nl nd br, i = .beginId nb nl nd br) ∨
    (∃ nb nl nd br map, map.length = 8 ∧ (∀ m ∈ map, m.toNat < 8) ∧ map.Nodup ∧ i = .beginMap nb nl nd br map) →
    ∃ t, exec i .reset = .next t ∧ t.fault = none)

/-! ### Far end -/

/-- R72, R73, R74: the three data commands set DMODE, and with a further byte sent they havoc; a read frame may read any number of bytes. -/
def Obligations.DataCommandsSetTheMode : Prop :=
  ∀ (s : State) (n : Nat),
    exec (.wDataAuto ⟨[], 0⟩) s = .next { s with farEnd := { s.farEnd with dmode := .known .auto } } ∧
    exec (.wDataFixed ⟨[], 0⟩) s = .next { s with farEnd := { s.farEnd with dmode := .known .fixed } } ∧
    exec (.wDataRead ⟨[], n⟩) s = .next { s with farEnd := { s.farEnd with dmode := .known .read } } ∧
    (∀ (x : Byte) (more : List Byte),
      exec (.wDataAuto ⟨x :: more, n⟩) s = .next { s with farEnd := .unknown } ∧
      exec (.wDataFixed ⟨x :: more, n⟩) s = .next { s with farEnd := .unknown } ∧
      exec (.wDataRead ⟨x :: more, n⟩) s = .next { s with farEnd := .unknown })

/-- R75. -/
def Obligations.DisplayCommandsSetTheDisplay : Prop :=
  ∀ (s : State) (b : Level) (n : Nat),
    exec (.wDispOff ⟨[], 0⟩) s = .next { s with farEnd := { s.farEnd with disp := .known .off } } ∧
    exec (.wDispOn b ⟨[], 0⟩) s = .next { s with farEnd := { s.farEnd with disp := .known (.on b) } } ∧
    (∀ (x : Byte) (more : List Byte),
      exec (.wDispOff ⟨x :: more, n⟩) s = .next { s with farEnd := .unknown } ∧
      exec (.wDispOn b ⟨x :: more, n⟩) s = .next { s with farEnd := .unknown })

/-- R76, R77, R78: an address frame without reads. AUTO writes slots a, a+1, ...; past slot 15 the bytes up to it are written and the rest is unknown (DMODE with it, log 15). FIXED writes one slot. READ, NONE and an unknown mode (log 14) havoc. -/
def Obligations.AddressFramesWriteTheirSlots : Prop :=
  ∀ (s : State) (a : Slot) (ds : List Byte),
    (s.farEnd.dmode = .known .auto → a.toNat + ds.length ≤ 16 →
      ∃ dram, exec (.wAddr a ⟨ds, 0⟩) s = .next { s with farEnd := { s.farEnd with dram := dram } } ∧
        ∀ j : Fin 16, dram[j] =
          if h : a.toNat ≤ j.val ∧ j.val - a.toNat < ds.length then .known (ds[j.val - a.toNat]'h.2)
          else s.farEnd.dram[j]) ∧
    (s.farEnd.dmode = .known .auto → 16 < a.toNat + ds.length →
      ∃ dram, exec (.wAddr a ⟨ds, 0⟩) s = .next { s with farEnd := ⟨dram, .unknown, .unknown⟩ } ∧
        ∀ j : Fin 16, dram[j] =
          if h : a.toNat ≤ j.val ∧ j.val - a.toNat < ds.length then .known (ds[j.val - a.toNat]'h.2)
          else .unknown) ∧
    (s.farEnd.dmode = .known .fixed →
      exec (.wAddr a ⟨[], 0⟩) s = .next s ∧
      (∀ d, exec (.wAddr a ⟨[d], 0⟩) s =
        .next { s with farEnd := { s.farEnd with dram := s.farEnd.dram.set a.toNat (.known d) (by omega) } }) ∧
      (2 ≤ ds.length → exec (.wAddr a ⟨ds, 0⟩) s = .next { s with farEnd := .unknown })) ∧
    (s.farEnd.dmode = .known .read ∨ s.farEnd.dmode = .known .none ∨ s.farEnd.dmode = .unknown →
      exec (.wAddr a ⟨ds, 0⟩) s = .next { s with farEnd := .unknown })

/-- R78, R102: a frame whose first byte is outside the table of R71 havocs, whatever follows; the empty frame changes nothing; one that reads and sends nothing havocs (log 16). -/
def Obligations.FramesOutsideTheTableHavoc : Prop :=
  (∀ (c : Byte) (more : List Byte) (n : Nat) (e : FarEnd),
    (c.toNat ≤ 0x3F ∨ c.toNat = 0x41 ∨ c.toNat = 0x43 ∨ (0x45 ≤ c.toNat ∧ c.toNat ≤ 0x7F) ∨
      (0x81 ≤ c.toNat ∧ c.toNat ≤ 0x87) ∨ (0x90 ≤ c.toNat ∧ c.toNat ≤ 0xBF) ∨ 0xD0 ≤ c.toNat) →
    e.read ⟨c :: more, n⟩ = .unknown) ∧
  (∀ e : FarEnd, e.read ⟨[], 0⟩ = e) ∧
  (∀ (n : Nat) (e : FarEnd), n ≠ 0 → e.read ⟨[], n⟩ = .unknown)

/-- R79: what a position shows, segments, decimal point and LED; nothing while the display is off. -/
def Obligations.PositionsShowTheirSlots : Prop :=
  ∀ (e : FarEnd) (p : Index),
    (e.disp = .known .off → e.shown p = ⟨.known 0#7, .known false, .known false⟩) ∧
    (∀ (b : Level) (x y : Byte), e.disp = .known (.on b) →
      e.dram[2 * p.val] = .known x → e.dram[2 * p.val + 1] = .known y →
      ∃ pat : Pattern, pat.toNat = x.toNat % 128 ∧
        e.shown p = ⟨.known pat, .known (x.getLsbD 7), .known (y.getLsbD 0)⟩)
end

