-- ==== Sys2Proof/Laws/State.lean ====
section
/-! SUPPORT. One lemma for each field of State and each named update: what the update leaves in the field. -/

namespace Sys2Proof.Machine

/-! ### emit -/

@[simp] theorem State.emit_init (s : State) (e : Event) : (s.emit e).init = s.init := rfl
@[simp] theorem State.emit_numDigits (s : State) (e : Event) : (s.emit e).numDigits = s.numDigits := rfl
@[simp] theorem State.emit_numLeds (s : State) (e : Event) : (s.emit e).numLeds = s.numLeds := rfl
@[simp] theorem State.emit_numButtons (s : State) (e : Event) : (s.emit e).numButtons = s.numButtons := rfl
@[simp] theorem State.emit_bright (s : State) (e : Event) : (s.emit e).bright = s.bright := rfl
@[simp] theorem State.emit_dmap (s : State) (e : Event) : (s.emit e).dmap = s.dmap := rfl
@[simp] theorem State.emit_dig (s : State) (e : Event) : (s.emit e).dig = s.dig := rfl
@[simp] theorem State.emit_ledm (s : State) (e : Event) : (s.emit e).ledm = s.ledm := rfl
@[simp] theorem State.emit_pinsCfg (s : State) (e : Event) : (s.emit e).pinsCfg = s.pinsCfg := rfl
@[simp] theorem State.emit_inFrame (s : State) (e : Event) : (s.emit e).inFrame = s.inFrame := rfl
@[simp] theorem State.emit_dioDir (s : State) (e : Event) : (s.emit e).dioDir = s.dioDir := rfl
@[simp] theorem State.emit_fault (s : State) (e : Event) : (s.emit e).fault = s.fault := rfl
@[simp] theorem State.emit_wire (s : State) (e : Event) : (s.emit e).wire = s.wire.emit e := rfl
@[simp] theorem State.emit_draws (s : State) (e : Event) : (s.emit e).draws = s.draws := rfl
@[simp] theorem State.emit_requests (s : State) (e : Event) : (s.emit e).requests = s.requests := rfl
@[simp] theorem State.emit_responses (s : State) (e : Event) : (s.emit e).responses = s.responses := rfl
@[simp] theorem State.emit_farEnd (s : State) (e : Event) : (s.emit e).farEnd = s.farEnd := rfl

/-! ### respond -/

@[simp] theorem State.respond_init (s : State) (v : Byte) : (s.respond v).init = s.init := rfl
@[simp] theorem State.respond_numDigits (s : State) (v : Byte) : (s.respond v).numDigits = s.numDigits := rfl
@[simp] theorem State.respond_numLeds (s : State) (v : Byte) : (s.respond v).numLeds = s.numLeds := rfl
@[simp] theorem State.respond_numButtons (s : State) (v : Byte) : (s.respond v).numButtons = s.numButtons := rfl
@[simp] theorem State.respond_bright (s : State) (v : Byte) : (s.respond v).bright = s.bright := rfl
@[simp] theorem State.respond_dmap (s : State) (v : Byte) : (s.respond v).dmap = s.dmap := rfl
@[simp] theorem State.respond_dig (s : State) (v : Byte) : (s.respond v).dig = s.dig := rfl
@[simp] theorem State.respond_ledm (s : State) (v : Byte) : (s.respond v).ledm = s.ledm := rfl
@[simp] theorem State.respond_pinsCfg (s : State) (v : Byte) : (s.respond v).pinsCfg = s.pinsCfg := rfl
@[simp] theorem State.respond_inFrame (s : State) (v : Byte) : (s.respond v).inFrame = s.inFrame := rfl
@[simp] theorem State.respond_dioDir (s : State) (v : Byte) : (s.respond v).dioDir = s.dioDir := rfl
@[simp] theorem State.respond_fault (s : State) (v : Byte) : (s.respond v).fault = s.fault := rfl
@[simp] theorem State.respond_wire (s : State) (v : Byte) : (s.respond v).wire = s.wire := rfl
@[simp] theorem State.respond_draws (s : State) (v : Byte) : (s.respond v).draws = s.draws := rfl
@[simp] theorem State.respond_requests (s : State) (v : Byte) : (s.respond v).requests = s.requests := rfl
@[simp] theorem State.respond_responses (s : State) (v : Byte) : (s.respond v).responses = s.responses ++ [v] := rfl
@[simp] theorem State.respond_farEnd (s : State) (v : Byte) : (s.respond v).farEnd = s.farEnd := rfl

/-! ### draw -/

@[simp] theorem State.draw_init (s : State) : (s.draw).init = s.init := rfl
@[simp] theorem State.draw_numDigits (s : State) : (s.draw).numDigits = s.numDigits := rfl
@[simp] theorem State.draw_numLeds (s : State) : (s.draw).numLeds = s.numLeds := rfl
@[simp] theorem State.draw_numButtons (s : State) : (s.draw).numButtons = s.numButtons := rfl
@[simp] theorem State.draw_bright (s : State) : (s.draw).bright = s.bright := rfl
@[simp] theorem State.draw_dmap (s : State) : (s.draw).dmap = s.dmap := rfl
@[simp] theorem State.draw_dig (s : State) : (s.draw).dig = s.dig := rfl
@[simp] theorem State.draw_ledm (s : State) : (s.draw).ledm = s.ledm := rfl
@[simp] theorem State.draw_pinsCfg (s : State) : (s.draw).pinsCfg = s.pinsCfg := rfl
@[simp] theorem State.draw_inFrame (s : State) : (s.draw).inFrame = s.inFrame := rfl
@[simp] theorem State.draw_dioDir (s : State) : (s.draw).dioDir = s.dioDir := rfl
@[simp] theorem State.draw_fault (s : State) : (s.draw).fault = s.fault := rfl
@[simp] theorem State.draw_wire (s : State) : (s.draw).wire = s.wire := rfl
@[simp] theorem State.draw_draws (s : State) : (s.draw).draws = s.draws + 1 := rfl
@[simp] theorem State.draw_requests (s : State) : (s.draw).requests = s.requests := rfl
@[simp] theorem State.draw_responses (s : State) : (s.draw).responses = s.responses := rfl
@[simp] theorem State.draw_farEnd (s : State) : (s.draw).farEnd = s.farEnd := rfl

/-! ### takeFault -/

@[simp] theorem State.takeFault_init (s : State) (c : FaultCode) (r : List Byte) : (s.takeFault c r).init = s.init := rfl
@[simp] theorem State.takeFault_numDigits (s : State) (c : FaultCode) (r : List Byte) : (s.takeFault c r).numDigits = s.numDigits := rfl
@[simp] theorem State.takeFault_numLeds (s : State) (c : FaultCode) (r : List Byte) : (s.takeFault c r).numLeds = s.numLeds := rfl
@[simp] theorem State.takeFault_numButtons (s : State) (c : FaultCode) (r : List Byte) : (s.takeFault c r).numButtons = s.numButtons := rfl
@[simp] theorem State.takeFault_bright (s : State) (c : FaultCode) (r : List Byte) : (s.takeFault c r).bright = s.bright := rfl
@[simp] theorem State.takeFault_dmap (s : State) (c : FaultCode) (r : List Byte) : (s.takeFault c r).dmap = s.dmap := rfl
@[simp] theorem State.takeFault_dig (s : State) (c : FaultCode) (r : List Byte) : (s.takeFault c r).dig = s.dig := rfl
@[simp] theorem State.takeFault_ledm (s : State) (c : FaultCode) (r : List Byte) : (s.takeFault c r).ledm = s.ledm := rfl
@[simp] theorem State.takeFault_pinsCfg (s : State) (c : FaultCode) (r : List Byte) : (s.takeFault c r).pinsCfg = s.pinsCfg := rfl
@[simp] theorem State.takeFault_inFrame (s : State) (c : FaultCode) (r : List Byte) : (s.takeFault c r).inFrame = s.inFrame := rfl
@[simp] theorem State.takeFault_dioDir (s : State) (c : FaultCode) (r : List Byte) : (s.takeFault c r).dioDir = s.dioDir := rfl
@[simp] theorem State.takeFault_fault (s : State) (c : FaultCode) (r : List Byte) : (s.takeFault c r).fault = some ⟨c, r⟩ := rfl
@[simp] theorem State.takeFault_wire (s : State) (c : FaultCode) (r : List Byte) : (s.takeFault c r).wire = s.wire := rfl
@[simp] theorem State.takeFault_draws (s : State) (c : FaultCode) (r : List Byte) : (s.takeFault c r).draws = s.draws := rfl
@[simp] theorem State.takeFault_requests (s : State) (c : FaultCode) (r : List Byte) : (s.takeFault c r).requests = s.requests := rfl
@[simp] theorem State.takeFault_responses (s : State) (c : FaultCode) (r : List Byte) : (s.takeFault c r).responses = s.responses := rfl
@[simp] theorem State.takeFault_farEnd (s : State) (c : FaultCode) (r : List Byte) : (s.takeFault c r).farEnd = s.farEnd := rfl

/-! ### setDig -/

@[simp] theorem State.setDig_init (s : State) (i : Index) (b : Byte) : (s.setDig i b).init = s.init := rfl
@[simp] theorem State.setDig_numDigits (s : State) (i : Index) (b : Byte) : (s.setDig i b).numDigits = s.numDigits := rfl
@[simp] theorem State.setDig_numLeds (s : State) (i : Index) (b : Byte) : (s.setDig i b).numLeds = s.numLeds := rfl
@[simp] theorem State.setDig_numButtons (s : State) (i : Index) (b : Byte) : (s.setDig i b).numButtons = s.numButtons := rfl
@[simp] theorem State.setDig_bright (s : State) (i : Index) (b : Byte) : (s.setDig i b).bright = s.bright := rfl
@[simp] theorem State.setDig_dmap (s : State) (i : Index) (b : Byte) : (s.setDig i b).dmap = s.dmap := rfl
@[simp] theorem State.setDig_dig (s : State) (i : Index) (b : Byte) : (s.setDig i b).dig = s.dig.set i.val b := rfl
@[simp] theorem State.setDig_ledm (s : State) (i : Index) (b : Byte) : (s.setDig i b).ledm = s.ledm := rfl
@[simp] theorem State.setDig_pinsCfg (s : State) (i : Index) (b : Byte) : (s.setDig i b).pinsCfg = s.pinsCfg := rfl
@[simp] theorem State.setDig_inFrame (s : State) (i : Index) (b : Byte) : (s.setDig i b).inFrame = s.inFrame := rfl
@[simp] theorem State.setDig_dioDir (s : State) (i : Index) (b : Byte) : (s.setDig i b).dioDir = s.dioDir := rfl
@[simp] theorem State.setDig_fault (s : State) (i : Index) (b : Byte) : (s.setDig i b).fault = s.fault := rfl
@[simp] theorem State.setDig_wire (s : State) (i : Index) (b : Byte) : (s.setDig i b).wire = s.wire := rfl
@[simp] theorem State.setDig_draws (s : State) (i : Index) (b : Byte) : (s.setDig i b).draws = s.draws := rfl
@[simp] theorem State.setDig_requests (s : State) (i : Index) (b : Byte) : (s.setDig i b).requests = s.requests := rfl
@[simp] theorem State.setDig_responses (s : State) (i : Index) (b : Byte) : (s.setDig i b).responses = s.responses := rfl
@[simp] theorem State.setDig_farEnd (s : State) (i : Index) (b : Byte) : (s.setDig i b).farEnd = s.farEnd := rfl

/-! ### setLed -/

@[simp] theorem State.setLed_init (s : State) (i : Index) (on : Bool) : (s.setLed i on).init = s.init := rfl
@[simp] theorem State.setLed_numDigits (s : State) (i : Index) (on : Bool) : (s.setLed i on).numDigits = s.numDigits := rfl
@[simp] theorem State.setLed_numLeds (s : State) (i : Index) (on : Bool) : (s.setLed i on).numLeds = s.numLeds := rfl
@[simp] theorem State.setLed_numButtons (s : State) (i : Index) (on : Bool) : (s.setLed i on).numButtons = s.numButtons := rfl
@[simp] theorem State.setLed_bright (s : State) (i : Index) (on : Bool) : (s.setLed i on).bright = s.bright := rfl
@[simp] theorem State.setLed_dmap (s : State) (i : Index) (on : Bool) : (s.setLed i on).dmap = s.dmap := rfl
@[simp] theorem State.setLed_dig (s : State) (i : Index) (on : Bool) : (s.setLed i on).dig = s.dig := rfl
@[simp] theorem State.setLed_ledm (s : State) (i : Index) (on : Bool) : (s.setLed i on).ledm = setBit s.ledm i on := rfl
@[simp] theorem State.setLed_pinsCfg (s : State) (i : Index) (on : Bool) : (s.setLed i on).pinsCfg = s.pinsCfg := rfl
@[simp] theorem State.setLed_inFrame (s : State) (i : Index) (on : Bool) : (s.setLed i on).inFrame = s.inFrame := rfl
@[simp] theorem State.setLed_dioDir (s : State) (i : Index) (on : Bool) : (s.setLed i on).dioDir = s.dioDir := rfl
@[simp] theorem State.setLed_fault (s : State) (i : Index) (on : Bool) : (s.setLed i on).fault = s.fault := rfl
@[simp] theorem State.setLed_wire (s : State) (i : Index) (on : Bool) : (s.setLed i on).wire = s.wire := rfl
@[simp] theorem State.setLed_draws (s : State) (i : Index) (on : Bool) : (s.setLed i on).draws = s.draws := rfl
@[simp] theorem State.setLed_requests (s : State) (i : Index) (on : Bool) : (s.setLed i on).requests = s.requests := rfl
@[simp] theorem State.setLed_responses (s : State) (i : Index) (on : Bool) : (s.setLed i on).responses = s.responses := rfl
@[simp] theorem State.setLed_farEnd (s : State) (i : Index) (on : Bool) : (s.setLed i on).farEnd = s.farEnd := rfl

/-! ### settled -/

@[simp] theorem State.settled_init (s : State) : (s.settled).init = s.init := rfl
@[simp] theorem State.settled_numDigits (s : State) : (s.settled).numDigits = s.numDigits := rfl
@[simp] theorem State.settled_numLeds (s : State) : (s.settled).numLeds = s.numLeds := rfl
@[simp] theorem State.settled_numButtons (s : State) : (s.settled).numButtons = s.numButtons := rfl
@[simp] theorem State.settled_bright (s : State) : (s.settled).bright = s.bright := rfl
@[simp] theorem State.settled_dmap (s : State) : (s.settled).dmap = s.dmap := rfl
@[simp] theorem State.settled_dig (s : State) : (s.settled).dig = s.dig := rfl
@[simp] theorem State.settled_ledm (s : State) : (s.settled).ledm = s.ledm := rfl
@[simp] theorem State.settled_pinsCfg (s : State) : (s.settled).pinsCfg = s.pinsCfg := rfl
@[simp] theorem State.settled_inFrame (s : State) : (s.settled).inFrame = s.inFrame := rfl
@[simp] theorem State.settled_dioDir (s : State) : (s.settled).dioDir = s.dioDir := rfl
@[simp] theorem State.settled_fault (s : State) : (s.settled).fault = s.fault := rfl
@[simp] theorem State.settled_wire (s : State) : (s.settled).wire = { s.wire with pending := [] } := rfl
@[simp] theorem State.settled_draws (s : State) : (s.settled).draws = s.draws := rfl
@[simp] theorem State.settled_requests (s : State) : (s.settled).requests = s.requests := rfl
@[simp] theorem State.settled_responses (s : State) : (s.settled).responses = s.responses := rfl
@[simp] theorem State.settled_farEnd (s : State) : (s.settled).farEnd = s.wire.pending.foldl FarEnd.read s.farEnd := rfl

/-! ### configured -/

@[simp] theorem configured_init (nb nl nd : Byte) (m : Vector Position 8) (s : State) : (configured nb nl nd m s).init = true := rfl
@[simp] theorem configured_numDigits (nb nl nd : Byte) (m : Vector Position 8) (s : State) : (configured nb nl nd m s).numDigits = clampDigits nd := rfl
@[simp] theorem configured_numLeds (nb nl nd : Byte) (m : Vector Position 8) (s : State) : (configured nb nl nd m s).numLeds = clampFeature nl := rfl
@[simp] theorem configured_numButtons (nb nl nd : Byte) (m : Vector Position 8) (s : State) : (configured nb nl nd m s).numButtons = clampFeature nb := rfl
@[simp] theorem configured_bright (nb nl nd : Byte) (m : Vector Position 8) (s : State) : (configured nb nl nd m s).bright = s.bright := rfl
@[simp] theorem configured_dmap (nb nl nd : Byte) (m : Vector Position 8) (s : State) : (configured nb nl nd m s).dmap = m := rfl
@[simp] theorem configured_dig (nb nl nd : Byte) (m : Vector Position 8) (s : State) : (configured nb nl nd m s).dig = s.dig := rfl
@[simp] theorem configured_ledm (nb nl nd : Byte) (m : Vector Position 8) (s : State) : (configured nb nl nd m s).ledm = s.ledm := rfl
@[simp] theorem configured_pinsCfg (nb nl nd : Byte) (m : Vector Position 8) (s : State) : (configured nb nl nd m s).pinsCfg = true := rfl
@[simp] theorem configured_inFrame (nb nl nd : Byte) (m : Vector Position 8) (s : State) : (configured nb nl nd m s).inFrame = s.inFrame := rfl
@[simp] theorem configured_dioDir (nb nl nd : Byte) (m : Vector Position 8) (s : State) : (configured nb nl nd m s).dioDir = .out := rfl
@[simp] theorem configured_fault (nb nl nd : Byte) (m : Vector Position 8) (s : State) : (configured nb nl nd m s).fault = s.fault := rfl
@[simp] theorem configured_wire (nb nl nd : Byte) (m : Vector Position 8) (s : State) : (configured nb nl nd m s).wire = s.wire := rfl
@[simp] theorem configured_draws (nb nl nd : Byte) (m : Vector Position 8) (s : State) : (configured nb nl nd m s).draws = s.draws := rfl
@[simp] theorem configured_requests (nb nl nd : Byte) (m : Vector Position 8) (s : State) : (configured nb nl nd m s).requests = s.requests := rfl
@[simp] theorem configured_responses (nb nl nd : Byte) (m : Vector Position 8) (s : State) : (configured nb nl nd m s).responses = s.responses := rfl
@[simp] theorem configured_farEnd (nb nl nd : Byte) (m : Vector Position 8) (s : State) : (configured nb nl nd m s).farEnd = s.farEnd := rfl

/-! ### Wire.emit -/

@[simp] theorem Wire.emit_trace (w : Wire) (e : Event) : (w.emit e).trace = w.trace ++ [e] := by cases e <;> rfl
@[simp] theorem Wire.emit_start_line (w : Wire) : (w.emit .start).line = .empty := rfl
@[simp] theorem Wire.emit_start_pending (w : Wire) : (w.emit .start).pending = w.pending := rfl
@[simp] theorem Wire.emit_stop_line (w : Wire) : (w.emit .stop).line = .empty := rfl
@[simp] theorem Wire.emit_stop_pending (w : Wire) : (w.emit .stop).pending = w.pending ++ [w.line] := rfl
@[simp] theorem Wire.emit_tx_line (w : Wire) (b : Byte) : (w.emit (.tx b)).line = ⟨w.line.sent ++ [b], w.line.reads⟩ := rfl
@[simp] theorem Wire.emit_tx_pending (w : Wire) (b : Byte) : (w.emit (.tx b)).pending = w.pending := rfl
@[simp] theorem Wire.emit_rx_line (w : Wire) (b : Byte) : (w.emit (.rx b)).line = ⟨w.line.sent, w.line.reads + 1⟩ := rfl
@[simp] theorem Wire.emit_rx_pending (w : Wire) (b : Byte) : (w.emit (.rx b)).pending = w.pending := rfl
@[simp] theorem Wire.emit_dirIn_line (w : Wire) : (w.emit .dirIn).line = w.line := rfl
@[simp] theorem Wire.emit_dirIn_pending (w : Wire) : (w.emit .dirIn).pending = w.pending := rfl
@[simp] theorem Wire.emit_dirOut_line (w : Wire) : (w.emit .dirOut).line = w.line := rfl
@[simp] theorem Wire.emit_dirOut_pending (w : Wire) : (w.emit .dirOut).pending = w.pending := rfl

@[simp] theorem Wire.emits_nil (w : Wire) : w.emits [] = w := rfl
@[simp] theorem Wire.emits_cons (w : Wire) (e : Event) (es : List Event) : w.emits (e :: es) = (w.emit e).emits es := rfl
theorem Wire.emits_append (w : Wire) (es fs : List Event) : w.emits (es ++ fs) = (w.emits es).emits fs := List.foldl_append

end Sys2Proof.Machine
end

