-- ==== Sys2Proof/Laws/Ops.lean ====
section
/-! SUPPORT. What each shared operation can do, said once: sub-steps, checks, the transport primitives and the frame procedures. -/

namespace Sys2Proof.Machine

/-! ### Sub-steps -/

@[simp] theorem Sub.bind_ok {α β : Type} (a : α) (s : State) (f : α → State → Sub β) :
    (Sub.ok a s).bind f = f a s := rfl

@[simp] theorem Sub.bind_raise {α β : Type} (c : FaultCode) (s : State) (f : α → State → Sub β) :
    (Sub.raise c s : Sub α).bind f = .raise c s := rfl

@[simp] theorem Sub.each_nil {α : Type} (f : α → State → Sub Unit) (s : State) : Sub.each f [] s = .ok () s := rfl

@[simp] theorem Sub.each_cons {α : Type} (f : α → State → Sub Unit) (x : α) (xs : List α) (s : State) :
    Sub.each f (x :: xs) s = (f x s).bind fun _ t => Sub.each f xs t := rfl

/-- A loop whose every round completes follows the rounds. -/
theorem Sub.each_ok {α : Type} (f : α → State → Sub Unit) (g : α → State → State) (P : State → Prop)
    (round : ∀ x s, P s → f x s = .ok () (g x s) ∧ P (g x s)) (xs : List α) :
    ∀ s, P s → Sub.each f xs s = .ok () (xs.foldl (fun s x => g x s) s) ∧ P (xs.foldl (fun s x => g x s) s) := by
  induction xs with
  | nil => intro s hs; exact ⟨rfl, hs⟩
  | cons x xs ih =>
    intro s hs
    obtain ⟨hx, hP⟩ := round x s hs
    simpa [hx] using ih (g x s) hP

/-! ### Requests and checks -/

theorem perform_latched {s : State} {r : FaultRecord} (h : s.fault = some r) (i : Instr) (body : State → Sub Unit) :
    perform i s body = .fault (.latched r.code) := by simp [perform, h]

theorem perform_ok {s t : State} (h : s.fault = none) {i : Instr} {body : State → Sub Unit} (hb : body s = .ok () t) :
    perform i s body = .next t := by simp [perform, h, hb]

theorem perform_raise {s t : State} {c : FaultCode} (h : s.fault = none) {i : Instr} {body : State → Sub Unit}
    (hb : body s = .raise c t) : perform i s body = .next (faulted i c t) := by simp [perform, h, hb]; rfl

/-- All that a request can do: it is refused, it completes, or it takes a fault. -/
theorem perform_cases (i : Instr) (s : State) (body : State → Sub Unit) :
    (∃ r, s.fault = some r ∧ perform i s body = .fault (.latched r.code)) ∨
    (s.fault = none ∧ ∃ t, body s = .ok () t ∧ perform i s body = .next t) ∨
    (s.fault = none ∧ ∃ c t, body s = .raise c t ∧ perform i s body = .next (faulted i c t)) := by
  cases h : s.fault with
  | some r => exact .inl ⟨r, rfl, perform_latched h i body⟩
  | none =>
    cases hb : body s with
    | ok a t => exact .inr (.inl ⟨rfl, t, rfl, perform_ok h hb⟩)
    | raise c t => exact .inr (.inr ⟨rfl, c, t, rfl, perform_raise h hb⟩)

theorem guarded_pass {α : Type} {check : State → Option FaultCode} {s : State} (h : check s = none)
    (body : State → Sub α) : guarded check body s = body s := by simp [guarded, h]

theorem guarded_stop {α : Type} {check : State → Option FaultCode} {s : State} {c : FaultCode} (h : check s = some c)
    (body : State → Sub α) : guarded check body s = .raise c s := by simp [guarded, h]

theorem guarded_init {s : State} (h : s.init = true) (body : State → Sub Unit) : guarded checkInit body s = body s :=
  guarded_pass (by simp [checkInit, h]) body

theorem guarded_uninit {s : State} (h : s.init = false) (body : State → Sub Unit) :
    guarded checkInit body s = .raise .notInitialized s := guarded_stop (by simp [checkInit, h]) body

/-! ### Transport primitives -/

theorem openFrame_eq (s : State) :
    openFrame s = if s.pinsCfg = false then .raise .notInitialized s
      else if s.inFrame = true then .raise .frameNest s
      else .ok () { s with inFrame := true, wire := s.wire.emits [.start] } := by
  unfold openFrame guarded checkStart
  split <;> split_ifs at * <;> simp_all [State.emit]

theorem closeFrame_eq (s : State) :
    closeFrame s = if s.pinsCfg = false then .raise .notInitialized s
      else if s.inFrame = false then .raise .noFrame s
      else .ok () { s with inFrame := false, wire := s.wire.emits [.stop] } := by
  unfold closeFrame guarded checkStop
  split <;> split_ifs at * <;> simp_all [State.emit]

theorem sendByte_eq (b : Byte) (s : State) :
    sendByte b s = if s.pinsCfg = false then .raise .notInitialized s
      else if s.inFrame = false then .raise .noFrame s
      else if s.dioDir = .in_ then .raise .dirMismatch s
      else .ok () { s with wire := s.wire.emits [.tx b] } := by
  unfold sendByte guarded checkTransfer
  cases h : s.dioDir <;> split <;> split_ifs at * <;> simp_all [State.emit]

theorem receiveByte_eq (s : State) :
    receiveByte s = if s.pinsCfg = false then .raise .notInitialized s
      else if s.inFrame = false then .raise .noFrame s
      else if s.dioDir = .out then .raise .dirMismatch s
      else .ok (Config.keyScanByte s.draws)
        { s with draws := s.draws + 1, wire := s.wire.emits [.rx (Config.keyScanByte s.draws)] } := by
  unfold receiveByte guarded checkTransfer
  cases h : s.dioDir <;> split <;> split_ifs at * <;> simp_all [State.emit, State.draw, State.nextDraw]

theorem dioIn_eq (s : State) :
    dioIn s = if s.pinsCfg = false then .raise .notInitialized s
      else .ok () { s with dioDir := .in_, wire := s.wire.emits [.dirIn] } := by
  unfold dioIn guarded checkPins
  split <;> split_ifs at * <;> simp_all [State.emit]

theorem dioOut_eq (s : State) :
    dioOut s = if s.pinsCfg = false then .raise .notInitialized s
      else .ok () { s with dioDir := .out, wire := s.wire.emits [.dirOut] } := by
  unfold dioOut guarded checkPins
  split <;> split_ifs at * <;> simp_all [State.emit]

/-! ### Frame procedures -/

/-- What a procedure that opens a frame and sends a byte does: it faults at the frame or at its first byte, or it is `done`. -/
def framed {α : Type} (s : State) (done : Sub α) : Sub α :=
  if s.pinsCfg = false then .raise .notInitialized s
  else if s.inFrame = true then .raise .frameNest s
  else if s.dioDir = .in_ then .raise .dirMismatch { s with inFrame := true, wire := s.wire.emits [.start] }
  else done

theorem framed_ready {α : Type} {s : State} (hp : s.pinsCfg = true) (hf : s.inFrame = false) (hd : s.dioDir = .out)
    (done : Sub α) : framed s done = done := by simp [framed, hp, hf, hd]

theorem sendCommand_eq (b : Byte) (s : State) :
    sendCommand b s = framed s (.ok () { s with wire := s.wire.emits (commandEvents b) }) := by
  unfold sendCommand framed
  rw [openFrame_eq]
  by_cases hp : s.pinsCfg = false
  · simp [hp]
  · by_cases hf : s.inFrame = true
    · simp [hp, hf]
    · by_cases hd : s.dioDir = .in_ <;> simp_all [sendByte_eq, closeFrame_eq, commandEvents]

theorem fixedWrite_eq (slot : Slot) (d : Byte) (s : State) :
    fixedWrite slot d s = framed s (.ok () { s with wire := s.wire.emits (fixedEvents slot d) }) := by
  unfold fixedWrite
  rw [sendCommand_eq]
  unfold framed
  by_cases hp : s.pinsCfg = false
  · simp [hp]
  · by_cases hf : s.inFrame = true
    · simp [hp, hf]
    · by_cases hd : s.dioDir = .in_ <;>
        simp_all [openFrame_eq, sendByte_eq, closeFrame_eq, commandEvents, fixedEvents, WireCmd.byte]

/-- In an open frame with the line as output, bytes go out one after another. -/
theorem each_sendByte (ds : List Byte) : ∀ s : State, s.pinsCfg = true → s.inFrame = true → s.dioDir = .out →
    Sub.each sendByte ds s = .ok () { s with wire := s.wire.emits (ds.map .tx) } := by
  induction ds with
  | nil => intro s _ _ _; rfl
  | cons d ds ih =>
    intro s hp hf hd
    rw [Sub.each_cons, sendByte_eq]
    simp only [hp, hf, hd, reduceCtorEq, ↓reduceIte, Sub.bind_ok, Bool.true_eq_false]
    rw [ih _ rfl rfl rfl]
    simp

theorem autoWrite_eq (ds : List Byte) (s : State) :
    autoWrite ds s = framed s (.ok () { s with wire := s.wire.emits (autoEvents ds) }) := by
  unfold autoWrite
  rw [sendCommand_eq]
  unfold framed
  by_cases hp : s.pinsCfg = false
  · simp [hp]
  · by_cases hf : s.inFrame = true
    · simp [hp, hf]
    · by_cases hd : s.dioDir = .in_
      · simp_all
      · have hd' : s.dioDir = .out := by cases h : s.dioDir <;> simp_all
        have hp' : s.pinsCfg = true := by simpa using hp
        have hf' : s.inFrame = false := by simpa using hf
        simp only [hp', hf', hd', openFrame_eq, sendByte_eq, reduceCtorEq, ↓reduceIte, Bool.false_eq_true,
          Bool.true_eq_false, Sub.bind_ok]
        rw [each_sendByte ds _ rfl rfl rfl]
        simp [closeFrame_eq, autoEvents, commandEvents, WireCmd.byte, Wire.emits_append]

/-- The four draws of a key scan. -/
theorem keyScan_eq (s : State) :
    keyScan s = framed s (.ok
      (Config.keyScanByte s.draws, Config.keyScanByte (s.draws + 1), Config.keyScanByte (s.draws + 2),
        Config.keyScanByte (s.draws + 3))
      { s with
        draws := s.draws + 4
        wire := s.wire.emits (keyScanEvents (Config.keyScanByte s.draws) (Config.keyScanByte (s.draws + 1))
          (Config.keyScanByte (s.draws + 2)) (Config.keyScanByte (s.draws + 3))) }) := by
  unfold keyScan framed
  rw [openFrame_eq]
  by_cases hp : s.pinsCfg = false
  · simp [hp]
  · by_cases hf : s.inFrame = true
    · simp [hp, hf]
    · by_cases hd : s.dioDir = .in_
      · simp_all [sendByte_eq]
      · have hd' : s.dioDir = .out := by cases h : s.dioDir <;> simp_all
        simp_all [sendByte_eq, dioIn_eq, dioOut_eq, receiveByte_eq, closeFrame_eq, keyScanEvents, WireCmd.byte]

/-! ### Indices -/

theorem shadowIndex_some {i : Byte} {k : Index} (h : k.val = i.toNat) : shadowIndex i = some k := by
  have hk := k.isLt
  simp [shadowIndex, ← h]

theorem shadowIndex_none {i : Byte} (h : 8 ≤ i.toNat) : shadowIndex i = none := by
  simp only [shadowIndex]
  split
  · omega
  · rfl

theorem digitIndex_some {s : State} {k : Index} (h : k.val < s.numDigits.val) : digitIndex s k.val = some k := by
  simp [digitIndex, h]

theorem digitIndex_none {s : State} {d : Nat} (h : s.numDigits.val ≤ d) : digitIndex s d = none := by
  simp only [digitIndex]
  split
  · omega
  · rfl

theorem ledIndex_some {s : State} {k : Index} (h : k.val < s.numLeds.val) : ledIndex s k.val = some k := by
  have : s.numLeds.val ≠ 0 := by omega
  simp only [ledIndex, h, this, ne_eq, not_false_eq_true, and_self, ↓reduceDIte]

theorem ledIndex_none {s : State} {i : Nat} (h : s.numLeds.val ≤ i) : ledIndex s i = none := by
  simp only [ledIndex]
  split
  · omega
  · rfl

end Sys2Proof.Machine
end

