-- ==== Sys2Proof/Laws/PerInstr.lean ====
section
/-! SUPPORT. Statements made for each instruction. Family EncodedLength: the words of an instruction have the length that rule R93 and the opcode table give it. -/

namespace Sys2Proof.Laws

/-- The column "len" of R93; for a wire command, its byte and the bytes its tail sends. -/
def wordLength : Instr → Nat
  | .tStart | .tStop | .tRdbyte | .tDioIn | .tDioOut | .rGetledm | .displayOff | .clear | .readButtons => 1
  | .tWrbyte _ | .tWrcmd _ | .sEncode _ | .sRawenc _ | .rGetdig _ | .rPhys _ | .setBrightness _ | .test _ => 2
  | .rSetdig _ _ | .rSetdp _ _ | .rSetled _ _ | .showByteBinary _ _ | .showLedsBinary _ _ => 3
  | .setLed _ _ | .setDp _ _ => 3
  | .showChar _ _ _ | .showInt8 _ _ _ => 4
  | .beginId _ _ _ _ | .showInt12 _ _ _ | .showInt16 _ _ _ => 5
  | .beginMap _ _ _ _ _ => 13
  | .wDataAuto t | .wDataRead t | .wDataFixed t | .wDispOff t | .wDispOn _ t | .wAddr _ t => 1 + t.sent.length

/-- The words of a well-formed instruction have that length. -/
def EncodedLength.Statement (i : Instr) : Prop := i.wf = true → (encode i).bytes.length = wordLength i

theorem EncodedLength.tStart : EncodedLength.Statement .tStart := fun _ => rfl

theorem EncodedLength.tStop : EncodedLength.Statement .tStop := fun _ => rfl

theorem EncodedLength.tWrbyte (b : Byte) : EncodedLength.Statement (.tWrbyte b) := fun _ => rfl

theorem EncodedLength.tRdbyte : EncodedLength.Statement .tRdbyte := fun _ => rfl

theorem EncodedLength.tWrcmd (b : Byte) : EncodedLength.Statement (.tWrcmd b) := fun _ => rfl

theorem EncodedLength.tDioIn : EncodedLength.Statement .tDioIn := fun _ => rfl

theorem EncodedLength.tDioOut : EncodedLength.Statement .tDioOut := fun _ => rfl

theorem EncodedLength.sEncode (idx : Byte) : EncodedLength.Statement (.sEncode idx) := fun _ => rfl

theorem EncodedLength.sRawenc (bits : Byte) : EncodedLength.Statement (.sRawenc bits) := fun _ => rfl

theorem EncodedLength.rSetdig (i b : Byte) : EncodedLength.Statement (.rSetdig i b) := fun _ => rfl

theorem EncodedLength.rGetdig (i : Byte) : EncodedLength.Statement (.rGetdig i) := fun _ => rfl

theorem EncodedLength.rSetdp (i : Byte) (on : Bool) : EncodedLength.Statement (.rSetdp i on) := fun _ => rfl

theorem EncodedLength.rSetled (i : Byte) (on : Bool) : EncodedLength.Statement (.rSetled i on) := fun _ => rfl

theorem EncodedLength.rGetledm : EncodedLength.Statement .rGetledm := fun _ => rfl

theorem EncodedLength.rPhys (l : Byte) : EncodedLength.Statement (.rPhys l) := fun _ => rfl

theorem EncodedLength.beginId (nb nl nd br : Byte) : EncodedLength.Statement (.beginId nb nl nd br) := fun _ => rfl

theorem EncodedLength.beginMap (nb nl nd br : Byte) (map : List Byte) : EncodedLength.Statement (.beginMap nb nl nd br map) := by
  intro h
  have : map.length = 8 := by simpa [Instr.wf] using h
  simp [encode, Code.bytes, wordLength, this]

theorem EncodedLength.displayOff : EncodedLength.Statement .displayOff := fun _ => rfl

theorem EncodedLength.clear : EncodedLength.Statement .clear := fun _ => rfl

theorem EncodedLength.setBrightness (level : Byte) : EncodedLength.Statement (.setBrightness level) := fun _ => rfl

theorem EncodedLength.test (enable : Bool) : EncodedLength.Statement (.test enable) := fun _ => rfl

theorem EncodedLength.showByteBinary (v : Byte) (lsbFirst : Bool) : EncodedLength.Statement (.showByteBinary v lsbFirst) := fun _ => rfl

theorem EncodedLength.showChar (d v : Byte) (raw : Bool) : EncodedLength.Statement (.showChar d v raw) := fun _ => rfl

theorem EncodedLength.showInt8 (d v : Byte) (decimal : Bool) : EncodedLength.Statement (.showInt8 d v decimal) := fun _ => rfl

theorem EncodedLength.showInt12 (d : Byte) (v : Half) (decimal : Bool) : EncodedLength.Statement (.showInt12 d v decimal) := fun _ => rfl

theorem EncodedLength.showInt16 (d : Byte) (v : Half) (decimal : Bool) : EncodedLength.Statement (.showInt16 d v decimal) := fun _ => rfl

theorem EncodedLength.showLedsBinary (v : Byte) (lsbFirst : Bool) : EncodedLength.Statement (.showLedsBinary v lsbFirst) := fun _ => rfl

theorem EncodedLength.setLed (i : Byte) (on : Bool) : EncodedLength.Statement (.setLed i on) := fun _ => rfl

theorem EncodedLength.setDp (d : Byte) (on : Bool) : EncodedLength.Statement (.setDp d on) := fun _ => rfl

theorem EncodedLength.readButtons : EncodedLength.Statement .readButtons := fun _ => rfl

theorem EncodedLength.wDataAuto (tail : Frame) : EncodedLength.Statement (.wDataAuto tail) := fun _ => by
  simp [encode, frameCode, Code.bytes, wordLength, Nat.add_comm]

theorem EncodedLength.wDataRead (tail : Frame) : EncodedLength.Statement (.wDataRead tail) := fun _ => by
  simp [encode, frameCode, Code.bytes, wordLength, Nat.add_comm]

theorem EncodedLength.wDataFixed (tail : Frame) : EncodedLength.Statement (.wDataFixed tail) := fun _ => by
  simp [encode, frameCode, Code.bytes, wordLength, Nat.add_comm]

theorem EncodedLength.wDispOff (tail : Frame) : EncodedLength.Statement (.wDispOff tail) := fun _ => by
  simp [encode, frameCode, Code.bytes, wordLength, Nat.add_comm]

theorem EncodedLength.wDispOn (b : Level) (tail : Frame) : EncodedLength.Statement (.wDispOn b tail) := fun _ => by
  simp [encode, frameCode, Code.bytes, wordLength, Nat.add_comm]

theorem EncodedLength.wAddr (s : Slot) (tail : Frame) : EncodedLength.Statement (.wAddr s tail) := fun _ => by
  simp [encode, frameCode, Code.bytes, wordLength, Nat.add_comm]

end Sys2Proof.Laws
end

