-- ==== Sys2Proof/Tests/Slice0.lean ====
section
/-! SUPPORT. Tests of the model against the words and vectors of spec/ (95_test_vectors.md and the rules' own examples), and for each statement with hypotheses a state that meets them. -/

namespace Sys2Proof.Machine.Test

/-! ### Helpers -/

/-- The state after BEGIN of 95_test_vectors.md: identity map, shadow zero, with nd digits, nl LEDs and nb buttons. -/
def idle (nd nl nb : Count) : State :=
  { State.reset with init := true, pinsCfg := true, numDigits := nd, numLeds := nl, numButtons := nb, dmap := identityMap }

/-- The next state of a result. -/
def nextOf : Result → Option State
  | .next t => some t
  | .fault _ => none
  | .refused _ => none

/-- The events an instruction adds from a state with an empty trace. -/
def traceOf (i : Instr) (s : State) : Option (List Event) := (nextOf (exec i s)).map fun t => t.wire.trace

/-- The fault an instruction takes. -/
def faultOf (i : Instr) (s : State) : Option FaultCode := (nextOf (exec i s)).bind fun t => t.fault.map fun r => r.code

/-- The shadow digits an instruction leaves. -/
def digOf (i : Instr) (s : State) : Option (List Byte) := (nextOf (exec i s)).map fun t => t.dig.toList

/-- The LED mask an instruction leaves. -/
def ledmOf (i : Instr) (s : State) : Option Byte := (nextOf (exec i s)).map fun t => t.ledm

/-- The responses an instruction leaves. -/
def responsesOf (i : Instr) (s : State) : Option (List Byte) := (nextOf (exec i s)).map fun t => t.responses

/-- The fault code of a step. -/
def stepFault (bytes : List Byte) : Option FaultCode :=
  (nextOf (step { State.reset with requests := bytes })).bind fun t => t.fault.map fun r => r.code

/-- A far end that has read frames, from one of which nothing is known. -/
def farEndAfter (frames : List (List Byte)) : FarEnd := frames.foldl (fun e sent => e.read ⟨sent, 0⟩) .unknown

/-! ### WellFormed -/

/-- MAP8 is eight bytes (R92): seven are refused. -/
theorem test_wf_refuses_a_short_map : (Instr.beginMap 0#8 0#8 1#8 0#8 [0#8, 1#8, 2#8, 3#8, 4#8, 5#8, 6#8]).wf = false := by
  decide

/-! ### Decoding: words written out from R93 and R96 -/

theorem test_decode_transport :
    decodeRequest [0x01#8] = .request .tStart [] ∧
    decodeRequest [0x02#8] = .request .tStop [] ∧
    decodeRequest [0x03#8, 0xC3#8] = .request (.tWrbyte 0xC3#8) [] ∧
    decodeRequest [0x04#8] = .request .tRdbyte [] ∧
    decodeRequest [0x05#8, 0x80#8] = .request (.tWrcmd 0x80#8) [] ∧
    decodeRequest [0x06#8] = .request .tDioIn [] ∧
    decodeRequest [0x07#8, 0x02#8] = .request .tDioOut [0x02#8] := by decide

theorem test_decode_codec :
    decodeRequest [0x10#8, 0x20#8] = .request (.sEncode 32#8) [] ∧
    decodeRequest [0x11#8, 0xDB#8] = .request (.sRawenc 0xDB#8) [] := by decide

theorem test_decode_register_file :
    decodeRequest [0x20#8, 0x03#8, 0x5B#8] = .request (.rSetdig 3#8 0x5B#8) [] ∧
    decodeRequest [0x21#8, 0x03#8] = .request (.rGetdig 3#8) [] ∧
    decodeRequest [0x22#8, 0x03#8, 0x01#8] = .request (.rSetdp 3#8 true) [] ∧
    decodeRequest [0x23#8, 0x07#8, 0x00#8] = .request (.rSetled 7#8 false) [] ∧
    decodeRequest [0x24#8] = .request .rGetledm [] ∧
    decodeRequest [0x25#8, 0x07#8] = .request (.rPhys 7#8) [] := by decide

theorem test_decode_initialisation :
    decodeRequest [0x30#8, 0x08#8, 0x07#8, 0x06#8, 0x02#8] = .request (.beginId 8#8 7#8 6#8 2#8) [] ∧
    decodeRequest [0x31#8, 0x00#8, 0x00#8, 0x04#8, 0x03#8, 0x03#8, 0x02#8, 0x01#8, 0x00#8, 0x04#8, 0x05#8, 0x06#8, 0x07#8] =
      .request (.beginMap 0#8 0#8 4#8 3#8 [3#8, 2#8, 1#8, 0#8, 4#8, 5#8, 6#8, 7#8]) [] ∧
    decodeRequest [0x32#8] = .request .displayOff [] ∧
    decodeRequest [0x33#8] = .request .clear [] ∧
    decodeRequest [0x34#8, 0x09#8] = .request (.setBrightness 9#8) [] ∧
    decodeRequest [0x35#8, 0x01#8] = .request (.test true) [] := by decide

theorem test_decode_display :
    decodeRequest [0x36#8, 0xB2#8, 0x01#8] = .request (.showByteBinary 0xB2#8 true) [] ∧
    decodeRequest [0x37#8, 0x03#8, 0x05#8, 0x00#8] = .request (.showChar 3#8 5#8 false) [] ∧
    decodeRequest [0x38#8, 0x00#8, 0x96#8, 0x01#8] = .request (.showInt8 0#8 150#8 true) [] ∧
    decodeRequest [0x39#8, 0x00#8, 0xBC#8, 0x0A#8, 0x00#8] = .request (.showInt12 0#8 0x0ABC#16 false) [] ∧
    decodeRequest [0x3A#8, 0x00#8, 0x39#8, 0x30#8, 0x01#8] = .request (.showInt16 0#8 12345#16 true) [] ∧
    decodeRequest [0x3B#8, 0xF0#8, 0x00#8] = .request (.showLedsBinary 0xF0#8 false) [] ∧
    decodeRequest [0x3C#8, 0x01#8, 0x01#8] = .request (.setLed 1#8 true) [] ∧
    decodeRequest [0x3D#8, 0x02#8, 0x00#8] = .request (.setDp 2#8 false) [] ∧
    decodeRequest [0x3E#8] = .request .readButtons [] := by decide

theorem test_decode_wire_commands :
    decodeFrame ⟨[0x40#8], 0⟩ = some (.wDataAuto ⟨[], 0⟩) ∧
    decodeFrame ⟨[0x42#8], 4⟩ = some (.wDataRead ⟨[], 4⟩) ∧
    decodeFrame ⟨[0x44#8], 0⟩ = some (.wDataFixed ⟨[], 0⟩) ∧
    decodeFrame ⟨[0x80#8], 0⟩ = some (.wDispOff ⟨[], 0⟩) ∧
    decodeFrame ⟨[0x8F#8], 0⟩ = some (.wDispOn 7#3 ⟨[], 0⟩) ∧
    decodeFrame ⟨[0xCF#8, 0xAA#8], 0⟩ = some (.wAddr 15#4 ⟨[0xAA#8], 0⟩) ∧
    decodeFrame ⟨[0x41#8], 0⟩ = none ∧ decodeFrame ⟨[0x87#8], 0⟩ = none ∧ decodeFrame ⟨[0xD0#8], 0⟩ = none := by decide

/-- R7: the sizes of the types are those of the table, and the defaults are the bytes 08 08 08 02 of R91. -/
theorem test_sizes_of_R7 :
    Level = BitVec Config.brightBits ∧ Count = Fin (Config.maxDigits + 1) ∧ Index = Fin Config.maxLeds ∧
    Config.maxButtons = 8 ∧ Config.segTableSize = 47 ∧ Config.blankIndex < Config.segTableSize ∧ Config.keyScanBytes = 4 ∧
    (WireCmd.addr 0#4).byte = Config.baseAddr ∧
    (encode (.beginId Config.apiDefaults.numButtons Config.apiDefaults.numLeds Config.apiDefaults.numDigits
      Config.apiDefaults.brightness)).bytes = [0x30#8, 0x08#8, 0x08#8, 0x08#8, 0x02#8] :=
  ⟨rfl, rfl, rfl, rfl, rfl, by decide, rfl, by decide, rfl⟩

/-- R95: requests follow one another without separators (program P5's first two). -/
theorem test_decode_leaves_the_rest :
    decodeRequest [0x20#8, 0x03#8, 0x5B#8, 0x22#8, 0x03#8, 0x01#8] =
      .request (.rSetdig 3#8 0x5B#8) [0x22#8, 0x03#8, 0x01#8] := by decide

/-- R94, R95: an unassigned opcode, a BOOL of 2 (VR7), and a request cut short. -/
theorem test_decode_rejects :
    decodeRequest [0x3F#8, 0x01#8] = .illegalRequest 0x3F#8 [0x01#8] ∧
    decodeRequest [0x22#8, 0x00#8, 0x02#8] = .illegalOperand [0x22#8, 0x00#8, 0x02#8] [] ∧
    decodeRequest [0x3A#8, 0x00#8, 0xAF#8, 0x12#8] = .incomplete := by decide

/-- Table words: a request with operands of zeros, and wire commands. -/
theorem test_decode_table_words :
    decodeTableWord 8 0x30 = some (.beginId 0#8 0#8 0#8 0#8) ∧
    decodeTableWord 24 0x015B22 = some (.rSetdp 0x5B#8 true) ∧
    decodeTableWord 8 0x8A = some (.wDispOn 2#3 ⟨[], 0⟩) ∧
    decodeTableWord 8 0xC5 = some (.wAddr 5#4 ⟨[], 0⟩) ∧
    decodeTableWord 8 0x3F = none := by decide

/-- A step from the probe's state runs the request, and the wire command. -/
theorem test_withFetchWord_runs :
    (nextOf (step (State.reset.withFetchWord 24 0x5B0320))).map (fun t => t.dig[3]) = some 0x5B#8 ∧
    (nextOf (step (State.reset.withFetchWord 8 0x40))).map (fun t => t.farEnd.dmode) = some (.known .auto) := by decide

/-! ### Transport (95_test_vectors.md L2.1) -/

theorem test_bit_levels :
    txLevels 0x8A#8 = [false, true, false, true, false, false, false, true] ∧
    rxAssemble [true, false, false, false, true, false, false, false] = 0x11 := by decide

theorem test_VT1_VT3_VT4_T_START :
    faultOf .tStart .reset = some .notInitialized ∧
    traceOf .tStart (idle 8 8 8) = some [.start] ∧
    faultOf .tStart { idle 8 8 8 with inFrame := true } = some .frameNest := by decide

theorem test_VT5_VT15_T_STOP :
    faultOf .tStop (idle 8 8 8) = some .noFrame ∧
    (nextOf (exec .tStop { idle 8 8 8 with inFrame := true, dioDir := .in_ })).map (fun t => t.dioDir) = some .in_ := by
  decide

theorem test_VT6_VT7_VT8_T_WRBYTE :
    faultOf (.tWrbyte 0x44#8) (idle 8 8 8) = some .noFrame ∧
    traceOf (.tWrbyte 0x44#8) { idle 8 8 8 with inFrame := true } = some [.tx 0x44#8] ∧
    faultOf (.tWrbyte 0x44#8) { idle 8 8 8 with inFrame := true, dioDir := .in_ } = some .dirMismatch := by decide

theorem test_VT9_VT10_T_RDBYTE :
    faultOf .tRdbyte { idle 8 8 8 with inFrame := true } = some .dirMismatch ∧
    faultOf .tRdbyte { idle 8 8 8 with dioDir := .in_ } = some .noFrame := by decide

/-- VT11, for whatever byte the far end drives. -/
theorem test_VT11_T_RDBYTE :
    responsesOf .tRdbyte { idle 8 8 8 with inFrame := true, dioDir := .in_ } = some [Config.keyScanByte 0] ∧
    traceOf .tRdbyte { idle 8 8 8 with inFrame := true, dioDir := .in_ } = some [.rx (Config.keyScanByte 0)] :=
  ⟨rfl, rfl⟩

theorem test_VT12_VT13_T_WRCMD :
    traceOf (.tWrcmd 0x80#8) (idle 8 8 8) = some [.start, .tx 0x80#8, .stop] ∧
    traceOf (.tWrcmd 0x80#8) { idle 8 8 8 with dioDir := .in_ } = some [.start] ∧
    faultOf (.tWrcmd 0x80#8) { idle 8 8 8 with dioDir := .in_ } = some .dirMismatch := by decide

theorem test_VT2_VT14_T_DIO_IN :
    faultOf .tDioIn .reset = some .notInitialized ∧
    traceOf .tDioIn { idle 8 8 8 with dioDir := .in_ } = some [.dirIn] := by decide

theorem test_T_DIO_OUT :
    traceOf .tDioOut { idle 8 8 8 with dioDir := .in_ } = some [.dirOut] ∧
    (nextOf (exec .tDioOut { idle 8 8 8 with dioDir := .in_ })).map (fun t => t.dioDir) = some .out := by decide

/-! ### Codec (L1.1, L2.2) -/

theorem test_S_ENCODE_blank :
    responsesOf (.sEncode 32#8) .reset = some [0x00#8] ∧ responsesOf (.sEncode 255#8) .reset = some [0x00#8] := by decide

theorem test_S_ENCODE_entry : responsesOf (.sEncode 46#8) .reset = some [(segTable 46).setWidth 8] := rfl

theorem test_S_RAWENC :
    responsesOf (.sRawenc 0xDB#8) .reset = some [0x5B#8] ∧ responsesOf (.sRawenc 0x80#8) .reset = some [0x00#8] := by decide

/-! ### Register file (L2.3) -/

theorem test_VR1_VR5_R_SETDIG :
    digOf (.rSetdig 3#8 0x5B#8) .reset = some [0#8, 0#8, 0#8, 0x5B#8, 0#8, 0#8, 0#8, 0#8] ∧
    faultOf (.rSetdig 8#8 0#8) .reset = some .indexRange := by decide

theorem test_VR2_VR6_R_GETDIG :
    responsesOf (.rGetdig 3#8) (State.reset.setDig 3 0x5B#8) = some [0x5B#8] ∧
    faultOf (.rGetdig 255#8) .reset = some .indexRange := by decide

theorem test_VR3_VR4_R_SETDP :
    digOf (.rSetdp 3#8 true) (State.reset.setDig 3 0x5B#8) = some [0#8, 0#8, 0#8, 0xDB#8, 0#8, 0#8, 0#8, 0#8] ∧
    digOf (.rSetdp 3#8 false) (State.reset.setDig 3 0xDB#8) = some [0#8, 0#8, 0#8, 0x5B#8, 0#8, 0#8, 0#8, 0#8] := by decide

theorem test_VR9_VR10_R_SETLED :
    ledmOf (.rSetled 7#8 true) .reset = some 0x80#8 ∧
    ledmOf (.rSetled 0#8 false) { State.reset with ledm := 0xFF#8 } = some 0xFE#8 := by decide

theorem test_R_GETLEDM : responsesOf .rGetledm { State.reset with ledm := 0x20#8 } = some [0x20#8] := by decide

theorem test_VR13_VR14_VR15_R_PHYS :
    faultOf (.rPhys 8#8) .reset = some .notInitialized ∧
    responsesOf (.rPhys 7#8) (idle 8 8 8) = some [0x07#8] ∧
    faultOf (.rPhys 8#8) (idle 8 8 8) = some .indexRange := by decide

theorem test_VR7_VR8_illegal_operand :
    stepFault [0x22#8, 0x00#8, 0x02#8] = some .illegalOperand ∧
    stepFault [0x22#8, 0x08#8, 0x02#8] = some .illegalOperand := by decide

theorem test_merges :
    mergeSeg 0x80#8 0x7F#8 = 0xFF#8 ∧ mergeSeg 0x00#8 0xFF#8 = 0x7F#8 ∧ mergeSeg 0x5B#8 0x06#8 = 0x06#8 ∧
    mergeDp 0xFF#8 false = 0x7F#8 ∧ mergeDp 0xDB#8 true = 0xDB#8 := by decide

/-! ### Sequencer (L1, L2.4, P1 to P4) -/

/-- P1 step 1. -/
theorem test_P1_BEGIN :
    traceOf (.beginId 0#8 1#8 1#8 2#8) .reset = some
      [.dirOut, .start, .tx 0x44#8, .stop, .start, .tx 0xC1#8, .tx 0x00#8, .stop,
        .start, .tx 0x44#8, .stop, .start, .tx 0xC0#8, .tx 0x00#8, .stop,
        .start, .tx 0x44#8, .stop, .start, .tx 0xC0#8, .tx 0x00#8, .stop, .start, .tx 0x8A#8, .stop] := by decide

/-- VF5. -/
theorem test_VF5_BEGIN :
    faultOf (.beginId 0#8 1#8 1#8 2#8) { idle 1 0 0 with inFrame := true } = some .frameNest ∧
    traceOf (.beginId 0#8 1#8 1#8 2#8) { idle 1 0 0 with inFrame := true } = some [.dirOut] := by decide

/-- P4 step 1, its map and its first frame; VD31. -/
theorem test_P4_VD31_BEGIN_MAP :
    (nextOf (exec (.beginMap 0#8 0#8 4#8 3#8 [3#8, 2#8, 1#8, 0#8, 4#8, 5#8, 6#8, 7#8]) .reset)).map
      (fun t => (t.dmap.toList, t.wire.trace.take 8)) =
      some ([3#3, 2#3, 1#3, 0#3, 4#3, 5#3, 6#3, 7#3],
        [.dirOut, .start, .tx 0x44#8, .stop, .start, .tx 0xC6#8, .tx 0x00#8, .stop]) ∧
    faultOf (.beginMap 0#8 0#8 1#8 0#8 [0#8, 0#8, 1#8, 2#8, 3#8, 4#8, 5#8, 6#8]) .reset = some .dmapInvalid := by decide

theorem test_VD1_VD30_DISPLAY_OFF :
    traceOf .displayOff (idle 8 8 8) = some [.start, .tx 0x80#8, .stop] ∧
    faultOf .displayOff .reset = some .notInitialized := by decide

/-- VD29. -/
theorem test_VD29_CLEAR :
    traceOf .clear ((idle 1 1 0).setDig 0 0x86#8) = some
      [.start, .tx 0x44#8, .stop, .start, .tx 0xC1#8, .tx 0x00#8, .stop,
        .start, .tx 0x44#8, .stop, .start, .tx 0xC0#8, .tx 0x80#8, .stop,
        .start, .tx 0x44#8, .stop, .start, .tx 0xC0#8, .tx 0x00#8, .stop] ∧
    digOf .clear ((idle 1 1 0).setDig 0 0x86#8) = some [0#8, 0#8, 0#8, 0#8, 0#8, 0#8, 0#8, 0#8] := by decide

/-- VD4 and VF2. -/
theorem test_VD4_VF2_SET_BRIGHTNESS :
    traceOf (.setBrightness 8#8) (idle 8 8 8) = some [.start, .tx 0x88#8, .stop] ∧
    (nextOf (exec (.setBrightness 3#8) { idle 8 8 8 with dioDir := .in_ })).map
      (fun t => (t.bright, t.inFrame, t.fault.map fun r => r.code)) = some (3#3, true, some .dirMismatch) := by decide

/-- VD28. -/
theorem test_VD28_TEST :
    traceOf (.test false)
      { ((idle 2 2 0).setDig 0 0xAA#8).setDig 1 0xBB#8 with ledm := 0x01#8, dmap := #v[1#3, 0#3, 2#3, 3#3, 4#3, 5#3, 6#3, 7#3] } =
      some [.start, .tx 0x40#8, .stop, .start, .tx 0xC0#8, .tx 0xBB#8, .tx 0x00#8, .tx 0xAA#8, .tx 0x01#8, .stop] := by
  decide

/-- L1.6. -/
theorem test_L1_6_TEST :
    traceOf (.test true) (idle 2 2 0) =
      some [.start, .tx 0x40#8, .stop, .start, .tx 0xC0#8, .tx 0xFF#8, .tx 0x01#8, .tx 0xFF#8, .tx 0x01#8, .stop] := by decide

/-- VD19, and L1.5's glyph on digit 1. -/
theorem test_VD19_L1_5_SHOW_BYTE_BINARY :
    traceOf (.showByteBinary 0xFF#8 true) (idle 7 8 0) = some [] ∧
    (nextOf (exec (.showByteBinary 0xB2#8 true) (idle 8 8 0))).map (fun t => t.dig[1]) =
      some (mergeSeg 0x00#8 (segEncode 1#8)) := ⟨rfl, rfl⟩

/-- L1.2 step 4, and VD7. -/
theorem test_L1_2_VD7_SHOW_CHAR :
    traceOf (.showChar 0#8 0xFF#8 true) ((idle 8 8 0).setDig 0 0x80#8) =
      some [.start, .tx 0x44#8, .stop, .start, .tx 0xC0#8, .tx 0xFF#8, .stop] ∧
    traceOf (.showChar 4#8 5#8 false) (idle 4 8 0) = some [] := by decide

/-- L1.3. -/
theorem test_L1_3_SHOW_INT8 :
    digOf (.showInt8 0#8 150#8 true) (idle 8 8 0) =
      some [mergeSeg 0#8 (segEncode 9#8), mergeSeg 0#8 (segEncode 9#8), 0#8, 0#8, 0#8, 0#8, 0#8, 0#8] ∧
    digOf (.showInt8 0#8 150#8 false) (idle 8 8 0) =
      some [mergeSeg 0#8 (segEncode 9#8), mergeSeg 0#8 (segEncode 6#8), 0#8, 0#8, 0#8, 0#8, 0#8, 0#8] := ⟨rfl, rfl⟩

/-- VD13 and VD16. -/
theorem test_VD13_VD16_SHOW_INT12 :
    digOf (.showInt12 0#8 0x1234#16 false) (idle 8 8 0) =
      some [mergeSeg 0#8 (segEncode 15#8), mergeSeg 0#8 (segEncode 15#8), mergeSeg 0#8 (segEncode 15#8), 0#8, 0#8, 0#8, 0#8, 0#8] ∧
    traceOf (.showInt12 1#8 7#16 true) (idle 3 8 0) = some [] := ⟨rfl, rfl⟩

/-- VD18. -/
theorem test_VD18_SHOW_INT16 :
    digOf (.showInt16 4#8 0x00A5#16 false) (idle 8 8 0) =
      some [0#8, 0#8, 0#8, 0#8, mergeSeg 0#8 (segEncode 0#8), mergeSeg 0#8 (segEncode 0#8),
        mergeSeg 0#8 (segEncode 10#8), mergeSeg 0#8 (segEncode 5#8)] := rfl

theorem test_digits :
    decDigits 7 3 = [0, 0, 7] ∧ decDigits 1234 4 = [1, 2, 3, 4] ∧
    hexDigits 0x96 2 = [9, 6] ∧ hexDigits 0x00A5 4 = [0, 0, 10, 5] := by decide

/-- VD21, and the example of R184. -/
theorem test_VD21_SHOW_LEDS_BINARY :
    ledmOf (.showLedsBinary 0xF0#8 false) (idle 8 8 0) = some 0x0F#8 ∧
    ledmOf (.showLedsBinary 0x81#8 true) (idle 8 8 0) = some 0x81#8 := by decide

/-- The example of R185, and VD23. -/
theorem test_VD23_SET_LED :
    traceOf (.setLed 1#8 true) (idle 2 2 0) = some [.start, .tx 0x44#8, .stop, .start, .tx 0xC3#8, .tx 0x01#8, .stop] ∧
    ledmOf (.setLed 3#8 true) (idle 8 3 0) = some 0x00#8 := by decide

/-- VD24 and VD25. -/
theorem test_VD24_VD25_SET_DP :
    traceOf (.setDp 2#8 true) ((idle 8 8 0).setDig 2 0x06#8) =
      some [.start, .tx 0x44#8, .stop, .start, .tx 0xC4#8, .tx 0x86#8, .stop] ∧
    traceOf (.setDp 2#8 false) ((idle 8 8 0).setDig 2 0x06#8) =
      some [.start, .tx 0x44#8, .stop, .start, .tx 0xC4#8, .tx 0x06#8, .stop] := by decide

/-- VD26. -/
theorem test_VD26_READ_BUTTONS :
    responsesOf .readButtons (idle 8 8 0) = some [0x00#8] ∧ traceOf .readButtons (idle 8 8 0) = some [] := by decide

/-- L1.8 and the table of R187. -/
theorem test_L1_8_combination :
    combineButtons 0x01#8 0x10#8 0x00#8 0x11#8 = 0xA9#8 ∧ combineButtons 0#8 0#8 0#8 0xFF#8 = 0xF8#8 ∧
    combineButtons 0#8 0x80#8 0#8 0#8 = 0x00#8 := by decide

theorem test_clamps :
    (clampDigits 0#8).val = 1 ∧ (clampDigits 9#8).val = 8 ∧ (clampFeature 8#8).val = 8 ∧ (clampFeature 9#8).val = 0 := by
  decide

/-- VF6. -/
theorem test_VF6_refused :
    nextOf (exec (.beginId 8#8 8#8 8#8 2#8) (State.reset.takeFault .notInitialized [0x32#8])) = none := by decide

/-! ### Far end (L2.1, reference-reading vectors) -/

theorem test_reading_auto :
    (farEndAfter [[0x40#8], [0xC0#8, 0x11#8, 0x22#8]]).dmode = .known .auto ∧
    (farEndAfter [[0x40#8], [0xC0#8, 0x11#8, 0x22#8]]).dram[1] = .known 0x22#8 ∧
    (farEndAfter [[0x40#8], [0xCF#8, 0x01#8, 0x02#8]]).dram[15] = .known 0x01#8 := by decide

theorem test_reading_fixed :
    (farEndAfter [[0x44#8], [0xC5#8, 0xAB#8]]).dram[5] = .known 0xAB#8 ∧
    farEndAfter [[0x44#8], [0xC5#8, 0xAB#8, 0xCD#8]] = .unknown ∧
    (farEndAfter [[0x44#8], [0xC5#8]]).dmode = .known .fixed := by decide

theorem test_reading_havoc :
    farEndAfter [[0x80#8], [0x41#8]] = .unknown ∧ farEndAfter [[0x44#8, 0x80#8]] = .unknown ∧
    farEndAfter [[0x42#8], [0xC0#8, 0x01#8]] = .unknown := by decide

theorem test_reading_display :
    (farEndAfter [[0x80#8]]).disp = .known .off ∧ (farEndAfter [[0x8F#8]]).disp = .known (.on 7#3) ∧
    (farEndAfter [[0x8F#8], []]).disp = .known (.on 7#3) := by decide

/-! ### Witnesses: states that meet the hypotheses of the statements -/

/-- A ready state with seven digits. -/
def seven : State := idle 7 7 0

/-- A frame left open. -/
def nested : State := { idle 8 8 8 with inFrame := true }

/-- The data line left as input. -/
def listening : State := { idle 8 8 8 with dioDir := .in_ }

theorem witness_DecodeOfEncodeIsTheInstruction :
    (Instr.beginMap 0#8 0#8 1#8 0#8 [0#8, 1#8, 2#8, 3#8, 4#8, 5#8, 6#8, 255#8]).wf = true ∧
    isRequest (.beginMap 0#8 0#8 1#8 0#8 [0#8, 1#8, 2#8, 3#8, 4#8, 5#8, 6#8, 255#8]) = true ∧
    (Instr.wAddr 15#4 ⟨[255#8], 1⟩).wf = true := by decide

theorem witness_DecodedWordsAreTheEncoding :
    decodeRequest [0x3E#8, 0x00#8] = .request .readButtons [0x00#8] ∧
    decodeFrame ⟨[0xC0#8], 0⟩ = some (.wAddr 0#4 ⟨[], 0⟩) := by decide

/-- At each end of each range of R94, and at each form of a BOOL operand. -/
theorem witness_IllegalEncodingsFault :
    State.reset.fault = none ∧ State.reset.wire.pending = [] ∧
    ([0x00, 0x08, 0x0F, 0x12, 0x1F, 0x26, 0x2F, 0x3F, 0xFF].all fun n =>
      stepFault [BitVec.ofNat 8 n] == some .illegalRequest) = true ∧
    stepFault [0x35#8, 0x02#8] = some .illegalOperand ∧
    stepFault [0x3D#8, 0x00#8, 0xFF#8] = some .illegalOperand ∧
    stepFault [0x38#8, 0x00#8, 0x00#8, 0x02#8] = some .illegalOperand ∧
    stepFault [0x3A#8, 0x00#8, 0x00#8, 0x00#8, 0x02#8] = some .illegalOperand := by decide

theorem witness_IncompleteRequestsWait :
    State.reset.fault = none ∧ State.reset.wire.pending = [] ∧ decodeRequest State.reset.requests = .incomplete ∧
    4 < (encode (.showInt16 0#8 0#16 false)).bytes.length := by decide

theorem witness_StepRunsTheDecodedRequest :
    State.reset.wire.pending = [] ∧ State.reset.fault = none ∧
    decodeRequest { State.reset with requests := [0x24#8, 0x01#8] }.requests = .request .rGetledm [0x01#8] := by decide

theorem witness_StepReadsTheOldestFrame :
    { Wire.empty with pending := [⟨[0x40#8], 0⟩] }.pending = ⟨[0x40#8], 0⟩ :: [] ∧
    (decodeFrame ⟨[0x40#8], 0⟩).isSome = true ∧ decodeFrame ⟨[], 0⟩ = none ∧ decodeFrame ⟨[0x41#8], 0⟩ = none := by decide

theorem witness_FaultedBlockRefusesEveryRequest :
    (State.reset.takeFault .notInitialized [0x32#8]).fault = some ⟨.notInitialized, [0x32#8]⟩ ∧
    (State.reset.takeFault .notInitialized [0x32#8]).wire.pending = [] ∧ isRequest (.beginId 8#8 8#8 8#8 2#8) = true := by
  decide

theorem witness_AgentsTouchOnlyTheirOwnState :
    (nextOf (exec .tStop nested)).isSome = true ∧ isRequest .tStop = true ∧
    (nextOf (exec (.wDataAuto ⟨[], 0⟩) .reset)).isSome = true ∧ isRequest (.wDataAuto ⟨[], 0⟩) = false := by decide

theorem witness_TraceAndResponsesOnlyGrow :
    (nextOf (step { idle 8 8 8 with requests := [0x01#8] })).map (fun t => t.wire.trace) = some [.start] := by decide

theorem witness_FramesReachTheFarEnd :
    Event.start ∉ [Event.tx 0x42#8, .dirIn, .rx 0x01#8] ∧ Event.stop ∉ [Event.tx 0x42#8, .dirIn, .rx 0x01#8] := by decide

/-- The clauses of the seven transport statements: lines not configured, frame open or not, line out or in. -/
theorem witness_transport_statements :
    State.reset.fault = none ∧ State.reset.pinsCfg = false ∧
    nested.fault = none ∧ nested.pinsCfg = true ∧ nested.inFrame = true ∧ nested.dioDir = .out ∧
    listening.fault = none ∧ listening.pinsCfg = true ∧ listening.inFrame = false ∧ listening.dioDir = .in_ ∧
    { listening with inFrame := true }.inFrame = true ∧ (idle 8 8 8).dioDir = .out ∧ (idle 8 8 8).inFrame = false ∧
    (idle 8 8 8).pinsCfg = true ∧ (idle 8 8 8).fault = none := by decide

theorem witness_StrobeFollowsTheFrame :
    nested.inFrame = true ∧ (idle 8 8 8).inFrame = false ∧ Event.stop ∈ ((idle 8 8 8).emit .stop).wire.trace := by decide

theorem witness_CodecRequestsAnswerThePattern :
    State.reset.fault = none ∧ (46#8).toNat < 47 ∧ 47 ≤ (47#8).toNat := by decide

theorem witness_SegmentTableHasItsProperties : 40 + 6 < 47 := by decide

/-- The clauses of the register-file statements: index 7, index 8, before and after BEGIN. -/
theorem witness_register_file_statements :
    State.reset.fault = none ∧ (7 : Index).val = (7#8).toNat ∧ 8 ≤ (8#8).toNat ∧
    State.reset.init = false ∧ (idle 8 8 8).fault = none ∧ (idle 8 8 8).init = true := by decide

theorem witness_BeginConfiguresAndClears :
    State.reset.fault = none ∧ State.reset.inFrame = false ∧ nested.fault = none ∧ nested.inFrame = true := by decide

theorem witness_BeginMapChecksThenBegins :
    State.reset.fault = none ∧ State.reset.inFrame = false ∧ nested.fault = none ∧ nested.inFrame = true ∧
    [0#8, 1#8, 2#8, 3#8, 4#8, 5#8, 6#8, 7#8].length = 8 ∧ (∀ m ∈ [0#8, 1#8, 2#8, 3#8, 4#8, 5#8, 6#8, 7#8], m.toNat < 8) ∧
    [0#8, 1#8, 2#8, 3#8, 4#8, 5#8, 6#8, 7#8].Nodup ∧
    (∀ l : Index, some ((identityMap[l]).setWidth 8) = [0#8, 1#8, 2#8, 3#8, 4#8, 5#8, 6#8, 7#8][l.val]?) ∧
    ¬ ((∀ m ∈ [0#8, 1#8, 2#8, 3#8, 4#8, 5#8, 6#8, 8#8], m.toNat < 8) ∧ [0#8, 1#8, 2#8, 3#8, 4#8, 5#8, 6#8, 8#8].Nodup) ∧
    ¬ ((∀ m ∈ [0#8, 0#8, 2#8, 3#8, 4#8, 5#8, 6#8, 7#8], m.toNat < 8) ∧ [0#8, 0#8, 2#8, 3#8, 4#8, 5#8, 6#8, 7#8].Nodup) := by
  decide

/-- The clauses of SequencerContract and of ReadButtonsCombinesFourBytes: before BEGIN, ready, and both abnormal starts. -/
theorem witness_SequencerContract :
    State.reset.fault = none ∧ State.reset.init = false ∧ (idle 8 8 8).Ready ∧ nested.Abnormal ∧ listening.Abnormal ∧
    (idle 8 8 8).numButtons.val ≠ 0 ∧ (idle 8 8 0).numButtons.val = 0 ∧ (idle 8 8 0).init = true := by decide

/-- What the sequencer statements ask of `sends`, met and not met, at the boundary: digits, LEDs and starts. -/
theorem witness_sequencer_sends :
    (idle 1 0 0).numDigits.val ≠ 0 ∧ ¬ (idle 0 0 0).numDigits.val ≠ 0 ∧
    8 ≤ (idle 8 8 8).numDigits.val ∧ ¬ 8 ≤ seven.numDigits.val ∧ seven.init = true ∧ seven.fault = none ∧
    (6 : Index).val < seven.numDigits.val ∧ ¬ (7 : Index).val < seven.numDigits.val ∧
    8 ≤ (idle 8 8 8).numLeds.val ∧ ¬ 8 ≤ seven.numLeds.val ∧ (6 : Index).val < seven.numLeds.val ∧
    ¬ (7 : Index).val < seven.numLeds.val ∧ (7 : Index).val = (7#8).toNat ∧ 8 ≤ (8#8).toNat := by decide

/-- The starts of SHOW_INT8, SHOW_INT12 and SHOW_INT16 on eight digits: the last that writes and the first that does not. -/
theorem witness_number_sends :
    (1 < (idle 8 8 8).numDigits.val ∧ (6#8).toNat + 1 < (idle 8 8 8).numDigits.val) ∧
    ¬ (1 < (idle 8 8 8).numDigits.val ∧ (7#8).toNat + 1 < (idle 8 8 8).numDigits.val) ∧
    (2 < (idle 8 8 8).numDigits.val ∧ (5#8).toNat + 2 < (idle 8 8 8).numDigits.val) ∧
    ¬ (2 < (idle 8 8 8).numDigits.val ∧ (6#8).toNat + 2 < (idle 8 8 8).numDigits.val) ∧
    (3 < (idle 4 8 8).numDigits.val ∧ (0#8).toNat + 3 < (idle 4 8 8).numDigits.val) ∧
    ¬ (3 < (idle 4 8 8).numDigits.val ∧ (1#8).toNat + 3 < (idle 4 8 8).numDigits.val) := by decide

theorem witness_TestLightsOrRestoresEveryPosition : Permutation #v[3#3, 2#3, 1#3, 0#3, 4#3, 5#3, 6#3, 7#3] := by decide

theorem witness_DigitsAreThoseOfTheValue : 9999 < 10 ^ 4 ∧ 0xFFFF < 16 ^ 4 := by decide

theorem witness_SequencerKeepsFrameAndDirection :
    State.reset.fault = none ∧ State.reset.init = false ∧ isDisplay .displayOff = true ∧
    (nextOf (exec .displayOff .reset)).isSome = true ∧
    (nextOf (exec .displayOff (idle 8 8 8))).map (fun t => t.fault) = some none ∧
    isBegin (.beginId 0#8 1#8 1#8 2#8) = true ∧
    (nextOf (exec (.beginId 0#8 1#8 1#8 2#8) listening)).map (fun t => t.fault) = some none := by decide

theorem witness_SequencerEmitsOnlyListedShapes :
    (idle 1 1 1).fault = none ∧ 1 ≤ (idle 1 1 1).numDigits.val ∧ isDisplay (.test true) = true ∧
    (nextOf (exec (.test true) (idle 1 1 1))).map (fun t => t.fault) = some none ∧
    isBegin (.beginId 0#8 1#8 1#8 2#8) = true ∧
    (nextOf (exec (.beginId 0#8 1#8 1#8 2#8) .reset)).map (fun t => t.fault) = some none ∧
    Wire.empty.pending = [] := by decide

theorem witness_legal_shapes :
    (Shape.command 0x8F#8).legal ∧ (Shape.fixed 15#4 0xFF#8).legal ∧ (Shape.auto [0xFF#8, 0x01#8]).legal ∧
    (Shape.scan 0#8 0#8 0#8 0#8).legal :=
  ⟨.inr (by decide), trivial, ⟨1, by decide, by decide, rfl⟩, trivial⟩

theorem witness_StepKeepsTheConfiguration :
    (idle 8 8 8).ConfigInv ∧ (nextOf (step { idle 8 8 8 with requests := [0x32#8] })).isSome = true := by decide

theorem witness_StepKeepsTheReading :
    { idle 8 8 8 with requests := [0x01#8] }.WireInv ∧
    (nextOf (step { idle 8 8 8 with requests := [0x01#8] })).isSome = true := by decide

theorem witness_ShadowStaysAWriteThroughMirror :
    (nextOf (exec (.beginId 0#8 1#8 1#8 2#8) .reset)).map (fun t => decide (t.fault = none ∧ t.ConfigInv ∧ t.Mirrored ∧
      t.inFrame = false)) = some true ∧
    bypasses (.setDp 0#8 true) = false ∧ isBegin (.beginId 0#8 1#8 1#8 2#8) = true ∧ State.reset.inFrame = false := by decide

theorem witness_TestRoundTripRestores :
    (idle 2 2 0).Ready ∧ (idle 2 2 0).ConfigInv ∧
    ((idle 2 2 0).dmap[(1 : Index)]).toNat < max (idle 2 2 0).numDigits.val (idle 2 2 0).numLeds.val := by decide

theorem witness_OnlySomeRequestsCompleteAtReset :
    isTransport .tStart = true ∧ isDisplay .readButtons = true ∧ (7#8).toNat < 8 ∧
    [0#8, 1#8, 2#8, 3#8, 4#8, 5#8, 6#8, 7#8].length = 8 ∧ (∀ m ∈ [0#8, 1#8, 2#8, 3#8, 4#8, 5#8, 6#8, 7#8], m.toNat < 8) ∧
    [0#8, 1#8, 2#8, 3#8, 4#8, 5#8, 6#8, 7#8].Nodup := by decide

/-- A far end in mode m. -/
def inMode (m : Known DMode) : State := { State.reset with farEnd := { FarEnd.unknown with dmode := m } }

/-- The clauses of AddressFramesWriteTheirSlots: the last slot exactly reached and passed, and each mode. -/
theorem witness_AddressFramesWriteTheirSlots :
    (inMode (.known .auto)).farEnd.dmode = .known .auto ∧ (15#4).toNat + [0#8].length ≤ 16 ∧
    16 < (15#4).toNat + [0#8, 0#8].length ∧ (inMode (.known .fixed)).farEnd.dmode = .known .fixed ∧
    2 ≤ [0#8, 0#8].length ∧ (inMode (.known .read)).farEnd.dmode = .known .read ∧
    (inMode (.known .none)).farEnd.dmode = .known .none ∧ (inMode .unknown).farEnd.dmode = .unknown := by decide

/-- The last clause of TRdbyteShiftsADrawIn. -/
theorem witness_TRdbyteShiftsADrawIn_reading :
    (⟨[0x44#8], 1⟩ : Frame).reads ≠ 0 ∧ (⟨[0x44#8], 1⟩ : Frame).sent.head? ≠ some 0x42#8 ∧
    (⟨[], 1⟩ : Frame).reads ≠ 0 ∧ (⟨[], 1⟩ : Frame).sent.head? ≠ some 0x42#8 := by decide

/-- The clauses of FramesOutsideTheTableHavoc: an end of each range of R102, and one read. -/
theorem witness_FramesOutsideTheTableHavoc :
    (0x3F#8).toNat ≤ 0x3F ∧ (0x41#8).toNat = 0x41 ∧ (0x43#8).toNat = 0x43 ∧
    (0x45 ≤ (0x7F#8).toNat ∧ (0x7F#8).toNat ≤ 0x7F) ∧ (0x81 ≤ (0x87#8).toNat ∧ (0x87#8).toNat ≤ 0x87) ∧
    (0x90 ≤ (0x90#8).toNat ∧ (0x90#8).toNat ≤ 0xBF) ∧ 0xD0 ≤ (0xD0#8).toNat ∧ (1 : Nat) ≠ 0 := by decide

theorem witness_PositionsShowTheirSlots :
    (farEndAfter [[0x80#8]]).disp = .known .off ∧
    (farEndAfter [[0x88#8], [0x40#8], [0xC0#8, 0x81#8, 0x01#8]]).disp = .known (.on 0#3) ∧
    (farEndAfter [[0x88#8], [0x40#8], [0xC0#8, 0x81#8, 0x01#8]]).dram[2 * (0 : Index).val] = .known 0x81#8 ∧
    (farEndAfter [[0x88#8], [0x40#8], [0xC0#8, 0x81#8, 0x01#8]]).dram[2 * (0 : Index).val + 1] = .known 0x01#8 := by decide

end Sys2Proof.Machine.Test
end

section
/-! Proofs of the scope statements: what each agent may touch (O9), that the histories only grow (O10), and how events make frames (O11). The idea is one preorder on states, `State.Extends`, kept by every sub-step of a request. -/

namespace Sys2Proof.Machine

/-! ### Events on the wire (R13, R71) -/

theorem Wire.emits_trace (w : Wire) (es : List Event) : (w.emits es).trace = w.trace ++ es := by
  induction es generalizing w with
  | nil => simp
  | cons e es ih => simp [ih]

/-- The byte an event sends. -/
def Event.sentByte : Event → Option Byte
  | .tx b => some b
  | _ => none

/-- Whether an event reads a byte. -/
def Event.isRead : Event → Bool
  | .rx _ => true
  | _ => false

/-- Inside a frame, the frame on the line collects the bytes sent and counts the reads, and nothing is handed over. -/
theorem Wire.emits_body (w : Wire) (body : List Event) (hstart : .start ∉ body) (hstop : .stop ∉ body) :
    (w.emits body).line =
      ⟨w.line.sent ++ body.filterMap Event.sentByte, w.line.reads + (body.filter Event.isRead).length⟩ ∧
    (w.emits body).pending = w.pending := by
  induction body generalizing w with
  | nil => simp
  | cons e es ih =>
    have hstart' : .start ∉ es := fun h => hstart (List.mem_cons_of_mem e h)
    have hstop' : .stop ∉ es := fun h => hstop (List.mem_cons_of_mem e h)
    obtain ⟨hline, hpending⟩ := ih (w.emit e) hstart' hstop'
    rw [Wire.emits_cons, hline, hpending]
    cases e with
    | start => simp at hstart
    | stop => simp at hstop
    | tx b => simp [Event.sentByte, Event.isRead]
    | rx b =>
      have hread : Event.isRead (.rx b) = true := rfl
      simp [Event.sentByte, List.filterMap_cons, List.filter_cons_of_pos hread, Nat.add_assoc, Nat.add_comm 1]
    | dirIn => simp [Event.sentByte, Event.isRead, List.filterMap_cons]
    | dirOut => simp [Event.sentByte, Event.isRead, List.filterMap_cons]

theorem Wire.emits_frame_pending (w : Wire) (body : List Event) (hstart : .start ∉ body) (hstop : .stop ∉ body) :
    (w.emits (.start :: body ++ [.stop])).pending =
      w.pending ++ [⟨body.filterMap Event.sentByte, (body.filter Event.isRead).length⟩] := by
  obtain ⟨hline, hpending⟩ := Wire.emits_body (w.emit .start) body hstart hstop
  calc (w.emits (.start :: body ++ [.stop])).pending
      = ((w.emit .start).emits body).pending ++ [((w.emit .start).emits body).line] := by
        simp [Wire.emits_append]
    _ = _ := by rw [hline, hpending]; simp [Frame.empty]

/-- Settles O11: the trace by induction on the events, the frame by the line that collects its body. -/
theorem framesReachTheFarEnd : Obligations.FramesReachTheFarEnd :=
  ⟨Wire.emits_trace, Wire.emits_frame_pending⟩

/-! ### Extension: what a host request may do to the wire, the histories and the other agents -/

/-- `t` extends `s`: the far end and the host's stream are those of `s`, and the trace, the frames waiting for the far end and the responses are only added to at their ends. -/
structure State.Extends (s t : State) : Prop where
  farEnd    : t.farEnd = s.farEnd
  requests  : t.requests = s.requests
  pending   : s.wire.pending <+: t.wire.pending
  trace     : s.wire.trace <+: t.wire.trace
  responses : s.responses <+: t.responses

theorem State.Extends.trans {s t u : State} (h : s.Extends t) (k : t.Extends u) : s.Extends u where
  farEnd := k.farEnd.trans h.farEnd
  requests := k.requests.trans h.requests
  pending := h.pending.trans k.pending
  trace := h.trace.trans k.trace
  responses := h.responses.trans k.responses

/-- Whatever changes only registers of the block extends. -/
theorem State.Extends.of_eq {s t : State} (hfar : t.farEnd = s.farEnd) (hreq : t.requests = s.requests)
    (hwire : t.wire = s.wire) (hresp : t.responses = s.responses) : s.Extends t where
  farEnd := hfar
  requests := hreq
  pending := hwire ▸ List.prefix_rfl
  trace := hwire ▸ List.prefix_rfl
  responses := hresp ▸ List.prefix_rfl

theorem State.Extends.refl (s : State) : s.Extends s := .of_eq rfl rfl rfl rfl

theorem Wire.pending_prefix_emit (w : Wire) (e : Event) : w.pending <+: (w.emit e).pending := by
  cases e with
  | stop => exact List.prefix_append _ _
  | start => exact List.prefix_rfl
  | tx b => exact List.prefix_rfl
  | rx b => exact List.prefix_rfl
  | dirIn => exact List.prefix_rfl
  | dirOut => exact List.prefix_rfl

theorem State.Extends.emit {s t : State} (h : s.Extends t) (e : Event) : s.Extends (t.emit e) where
  farEnd := h.farEnd
  requests := h.requests
  pending := h.pending.trans (Wire.pending_prefix_emit t.wire e)
  trace := h.trace.trans (by simp)
  responses := h.responses

theorem State.extends_respond (s : State) (v : Byte) : s.Extends (s.respond v) where
  farEnd := rfl
  requests := rfl
  pending := List.prefix_rfl
  trace := List.prefix_rfl
  responses := List.prefix_append _ _

theorem State.extends_setDig (s : State) (i : Index) (b : Byte) : s.Extends (s.setDig i b) := .of_eq rfl rfl rfl rfl

theorem State.extends_setLed (s : State) (i : Index) (on : Bool) : s.Extends (s.setLed i on) := .of_eq rfl rfl rfl rfl

/-! ### Extending sub-steps -/

/-- The state a sub-step leaves, whether it completes or raises a fault (R233). -/
def Sub.state {α : Type} : Sub α → State
  | .ok _ s => s
  | .raise _ s => s

/-- A procedure whose every run extends the state it starts from. -/
def Extending {α : Type} (f : State → Sub α) : Prop := ∀ s : State, s.Extends (f s).state

theorem Extending.ok {α : Type} (a : α) : Extending (Sub.ok a) := State.Extends.refl

theorem Extending.update {α : Type} (v : State → α) {g : State → State} (hg : ∀ s : State, s.Extends (g s)) :
    Extending fun s => .ok (v s) (g s) := hg

/-- An update that extends, then a procedure that does. -/
theorem Extending.after {α : Type} {f : State → Sub α} (hf : Extending f) {s t : State} (h : s.Extends t) :
    s.Extends (f t).state := h.trans (hf t)

theorem Extending.bind {α β : Type} {f : State → Sub α} {g : α → State → Sub β} (hf : Extending f)
    (hg : ∀ a, Extending (g a)) : Extending fun s => (f s).bind g := by
  intro s
  have hs := hf s
  show s.Extends ((f s).bind g).state
  cases h : f s with
  | ok a t => rw [h] at hs; exact hs.trans (hg a t)
  | raise c t => rw [h] at hs; exact hs

theorem Extending.each {α : Type} {f : α → State → Sub Unit} (hf : ∀ x, Extending (f x)) (xs : List α) :
    Extending (Sub.each f xs) := by
  induction xs with
  | nil => exact .ok ()
  | cons x xs ih => exact (hf x).bind fun _ => ih

theorem Extending.guarded {α : Type} {f : State → Sub α} (hf : Extending f) (check : State → Option FaultCode) :
    Extending (guarded check f) := by
  intro s
  cases h : check s with
  | some c => rw [guarded_stop h]; exact .refl s
  | none => rw [guarded_pass h]; exact hf s

theorem Extending.checked {α : Type} {v : State → α} {g : State → State} (hg : ∀ s : State, s.Extends (g s))
    (check : State → Option FaultCode) : Extending (Machine.guarded check fun s => .ok (v s) (g s)) :=
  (Extending.update v hg).guarded check

/-- A request whose pseudocode is extending extends the state, with or without a fault. -/
theorem Extending.perform {body : State → Sub Unit} (hb : Extending body) {i : Instr} {s t : State}
    (h : perform i s body = .next t) : s.Extends t := by
  have hs := hb s
  obtain ⟨r, -, hr⟩ | ⟨-, u, hu, hr⟩ | ⟨-, c, u, hu, hr⟩ := perform_cases i s body
  · cases hr.symm.trans h
  · cases hr.symm.trans h
    rwa [hu] at hs
  · cases hr.symm.trans h
    rw [hu] at hs
    exact hs.trans (.of_eq rfl rfl rfl rfl)

/-! ### The transport primitives and the frame procedures (R115 to R124) -/

theorem extending_openFrame : Extending openFrame :=
  .checked (fun s => .emit (s := s) (t := { s with inFrame := true }) (.of_eq rfl rfl rfl rfl) .start) checkStart

theorem extending_closeFrame : Extending closeFrame :=
  .checked (fun s => .emit (s := s) (t := { s with inFrame := false }) (.of_eq rfl rfl rfl rfl) .stop) checkStop

theorem extending_sendByte (b : Byte) : Extending (sendByte b) :=
  .checked (fun s => .emit (.refl s) (.tx b)) (checkTransfer .out)

theorem extending_receiveByte : Extending receiveByte :=
  .checked (fun s => .emit (s := s) (t := s.draw) (.of_eq rfl rfl rfl rfl) (.rx s.nextDraw)) (checkTransfer .in_)

theorem extending_dioIn : Extending dioIn :=
  .checked (fun s => .emit (s := s) (t := { s with dioDir := .in_ }) (.of_eq rfl rfl rfl rfl) .dirIn) checkPins

theorem extending_dioOut : Extending dioOut :=
  .checked (fun s => .emit (s := s) (t := { s with dioDir := .out }) (.of_eq rfl rfl rfl rfl) .dirOut) checkPins

theorem extending_sendCommand (b : Byte) : Extending (sendCommand b) :=
  extending_openFrame.bind fun _ => (extending_sendByte b).bind fun _ => extending_closeFrame

theorem extending_fixedWrite (slot : Slot) (d : Byte) : Extending (fixedWrite slot d) :=
  (extending_sendCommand _).bind fun _ => extending_openFrame.bind fun _ => (extending_sendByte _).bind fun _ =>
    (extending_sendByte d).bind fun _ => extending_closeFrame

theorem extending_autoWrite (ds : List Byte) : Extending (autoWrite ds) :=
  (extending_sendCommand _).bind fun _ => extending_openFrame.bind fun _ => (extending_sendByte _).bind fun _ =>
    (Extending.each extending_sendByte ds).bind fun _ => extending_closeFrame

theorem extending_keyScan : Extending keyScan :=
  extending_openFrame.bind fun _ => (extending_sendByte _).bind fun _ => extending_dioIn.bind fun _ =>
    extending_receiveByte.bind fun _ => extending_receiveByte.bind fun _ => extending_receiveByte.bind fun _ =>
      extending_receiveByte.bind fun _ => extending_dioOut.bind fun _ => extending_closeFrame.bind fun _ => .ok _

/-! ### The register file and the sequencer's procedures (R150 to R189) -/

theorem extending_respond (v : State → Byte) : Extending fun s => .ok () (s.respond (v s)) :=
  .update (fun _ => ()) fun s => s.extends_respond (v s)

theorem extending_onIndex {body : Index → State → Sub Unit} (hb : ∀ k, Extending (body k)) (i : Byte) :
    Extending (onIndex i body) := by
  intro s
  unfold onIndex
  split
  · exact hb _ s
  · exact .refl s

theorem extending_setDig (b : Index → State → Byte) (k : Index) : Extending fun s => .ok () (s.setDig k (b k s)) :=
  .update (fun _ => ()) fun s => s.extends_setDig k (b k s)

theorem extending_setLed (on : Bool) (k : Index) : Extending fun s => .ok () (s.setLed k on) :=
  .update (fun _ => ()) fun s => s.extends_setLed k on

theorem extending_showLed (i : Nat) (on : Bool) : Extending (showLed i on) := by
  intro s
  unfold showLed
  split
  · exact .refl s
  · exact (extending_fixedWrite _ _).after (s.extends_setLed _ on)

theorem extending_showDig (k : Index) (b : Byte) (s : State) : s.Extends (showDig k b s).state :=
  (extending_fixedWrite _ b).after (s.extends_setDig k b)

theorem extending_showGlyph (d : Nat) (v : Byte) (raw : Bool) : Extending (showGlyph d v raw) := by
  intro s
  unfold showGlyph
  split
  · exact .refl s
  · exact extending_showDig _ _ s

theorem extending_showDp (d : Nat) (on : Bool) : Extending (showDp d on) := by
  intro s
  unfold showDp
  split
  · exact .refl s
  · exact extending_showDig _ _ s

theorem extending_showDigits (L : List Nat) (d : Nat) : Extending (showDigits d L) := by
  induction L generalizing d with
  | nil => exact .ok ()
  | cons v vs ih => exact (extending_showGlyph d _ false).bind fun _ => ih (d + 1)

/-- A request that does nothing unless a condition on the state holds. -/
theorem Extending.ite {f g : State → Sub Unit} (hf : Extending f) (hg : Extending g) (p : State → Prop)
    [DecidablePred p] : Extending fun s => if p s then f s else g s := by
  intro s
  by_cases h : p s
  · simpa [h] using hf s
  · simpa [h] using hg s

theorem extending_showNumber (d n : Nat) (digits : List Nat) : Extending (showNumber d n digits) :=
  .ite (extending_showDigits digits d) (.ok ()) _

theorem extending_clearDigit (i : Nat) : Extending (clearDigit i) :=
  (extending_showLed i false).bind fun _ => (extending_showGlyph i _ true).bind fun _ => extending_showDp i false

theorem extending_clearAll : Extending clearAll :=
  fun s => Extending.each extending_clearDigit (List.range s.numDigits.val) s

theorem extending_brightness (level : Byte) : Extending (brightness level) :=
  fun _ => (extending_sendCommand _).after (.of_eq rfl rfl rfl rfl)

theorem extending_begin (nb nl nd br : Byte) (dmap : Vector Position 8) : Extending (begin_ nb nl nd br dmap) :=
  fun s => (extending_clearAll.bind fun _ => extending_brightness br).after
    (.emit (s := s) (t := configured nb nl nd dmap s) (.of_eq rfl rfl rfl rfl) .dirOut)

theorem extending_beginMap (nb nl nd br : Byte) (map : List Byte) :
    Extending fun s => match suppliedMap map with
      | none => .raise .dmapInvalid s
      | some dmap => begin_ nb nl nd br dmap s := by
  cases suppliedMap map with
  | none => exact State.Extends.refl
  | some dmap => exact extending_begin nb nl nd br dmap

theorem extending_test (enable : Bool) : Extending fun s => autoWrite (testBytes enable s) s :=
  fun s => extending_autoWrite (testBytes enable s) s

/-! ### Requests and wire commands -/

/-- Every host request is an extending procedure, run by `perform`. -/
theorem exec_request {i : Instr} (hi : isRequest i = true) :
    ∃ body, Extending body ∧ ∀ s, exec i s = perform i s body := by
  cases i with
  | tStart => exact ⟨_, extending_openFrame, fun _ => rfl⟩
  | tStop => exact ⟨_, extending_closeFrame, fun _ => rfl⟩
  | tWrbyte b => exact ⟨_, extending_sendByte b, fun _ => rfl⟩
  | tRdbyte => exact ⟨_, extending_receiveByte.bind fun v => extending_respond fun _ => v, fun _ => rfl⟩
  | tWrcmd b => exact ⟨_, extending_sendCommand b, fun _ => rfl⟩
  | tDioIn => exact ⟨_, extending_dioIn, fun _ => rfl⟩
  | tDioOut => exact ⟨_, extending_dioOut, fun _ => rfl⟩
  | sEncode idx => exact ⟨_, extending_respond fun _ => segEncode idx, fun _ => rfl⟩
  | sRawenc bits => exact ⟨_, extending_respond fun _ => rawEncode bits, fun _ => rfl⟩
  | rSetdig i b => exact ⟨_, extending_onIndex (extending_setDig fun _ _ => b) i, fun _ => rfl⟩
  | rGetdig i => exact ⟨_, extending_onIndex (fun k => extending_respond fun s => s.dig[k]) i, fun _ => rfl⟩
  | rSetdp i on => exact ⟨_, extending_onIndex (extending_setDig fun k s => mergeDp s.dig[k] on) i, fun _ => rfl⟩
  | rSetled i on => exact ⟨_, extending_onIndex (extending_setLed on) i, fun _ => rfl⟩
  | rGetledm => exact ⟨_, extending_respond State.ledm, fun _ => rfl⟩
  | rPhys l =>
    exact ⟨_, (extending_onIndex (fun k => extending_respond fun s => (s.dmap[k]).setWidth 8) l).guarded checkInit,
      fun _ => rfl⟩
  | beginId nb nl nd br => exact ⟨_, extending_begin nb nl nd br identityMap, fun _ => rfl⟩
  | beginMap nb nl nd br map => exact ⟨_, extending_beginMap nb nl nd br map, fun _ => rfl⟩
  | displayOff => exact ⟨_, (extending_sendCommand _).guarded checkInit, fun _ => rfl⟩
  | clear => exact ⟨_, extending_clearAll.guarded checkInit, fun _ => rfl⟩
  | setBrightness level => exact ⟨_, (extending_brightness level).guarded checkInit, fun _ => rfl⟩
  | test enable => exact ⟨_, (extending_test enable).guarded checkInit, fun _ => rfl⟩
  | showByteBinary v lsbFirst =>
    exact ⟨_, (Extending.ite (.ok ()) (.each (fun k => extending_showGlyph k _ false) _) _).guarded checkInit,
      fun _ => rfl⟩
  | showChar d v raw => exact ⟨_, (extending_showGlyph d.toNat v raw).guarded checkInit, fun _ => rfl⟩
  | showInt8 d v decimal => exact ⟨_, (extending_showNumber d.toNat 2 _).guarded checkInit, fun _ => rfl⟩
  | showInt12 d v decimal => exact ⟨_, (extending_showNumber d.toNat 3 _).guarded checkInit, fun _ => rfl⟩
  | showInt16 d v decimal => exact ⟨_, (extending_showNumber d.toNat 4 _).guarded checkInit, fun _ => rfl⟩
  | showLedsBinary v lsbFirst =>
    exact ⟨_, (Extending.ite (.ok ()) (.each (fun k => extending_showLed k _) _) _).guarded checkInit, fun _ => rfl⟩
  | setLed i on => exact ⟨_, (extending_showLed i.toNat on).guarded checkInit, fun _ => rfl⟩
  | setDp d on => exact ⟨_, (extending_showDp d.toNat on).guarded checkInit, fun _ => rfl⟩
  | readButtons =>
    exact ⟨_, (Extending.ite (extending_respond _) (extending_keyScan.bind fun b => extending_respond _) _).guarded
      checkInit, fun _ => rfl⟩
  | wDataAuto _ | wDataRead _ | wDataFixed _ | wDispOff _ | wDispOn _ _ | wAddr _ _ => cases hi

/-- Every host request extends the state it completes or faults from. -/
theorem exec_request_extends {i : Instr} (hi : isRequest i = true) {s t : State} (h : exec i s = .next t) :
    s.Extends t := by
  obtain ⟨body, hbody, hexec⟩ := exec_request hi
  exact hbody.perform ((hexec s).symm.trans h)

/-- A wire command is a move of the far end alone. -/
theorem exec_wire_command {i : Instr} (hi : isRequest i = false) (s : State) :
    ∃ e, exec i s = .next { s with farEnd := e } := by
  cases i with
  | wDataAuto tail => exact ⟨_, rfl⟩
  | wDataRead tail => exact ⟨_, rfl⟩
  | wDataFixed tail => exact ⟨_, rfl⟩
  | wDispOff tail => exact ⟨_, rfl⟩
  | wDispOn b tail => exact ⟨_, rfl⟩
  | wAddr a tail => exact ⟨_, rfl⟩
  | _ => cases hi

theorem exec_wire_command_next {i : Instr} (hi : isRequest i = false) {s t : State} (h : exec i s = .next t) :
    t = { s with farEnd := t.farEnd } := by
  obtain ⟨e, he⟩ := exec_wire_command hi s
  cases he.symm.trans h
  rfl

/-- Settles O9: a host request extends the state, a wire command sets the far end and nothing else. The far end is here the agent of log 12 with its own queue of frames, the request stream that of log 1, the wire commands the instructions of log 25. -/
theorem agentsTouchOnlyTheirOwnState : Obligations.AgentsTouchOnlyTheirOwnState := by
  intro i s t h
  refine ⟨fun hi => ?_, fun hi => exec_wire_command_next hi h⟩
  have hext := exec_request_extends hi h
  exact ⟨hext.farEnd, hext.requests, hext.pending⟩

/-! ### The histories along a step (R13, R37) -/

theorem exec_histories_grow {i : Instr} {s t : State} (h : exec i s = .next t) :
    s.wire.trace <+: t.wire.trace ∧ s.responses <+: t.responses := by
  cases hi : isRequest i with
  | true =>
    have hext := exec_request_extends hi h
    exact ⟨hext.trace, hext.responses⟩
  | false =>
    rw [exec_wire_command_next hi h]
    exact ⟨List.prefix_rfl, List.prefix_rfl⟩

/-- The state a fetch hands on; none where it stops. -/
def Fetched.state : Fetched → Option State
  | .run _ s => some s
  | .settle s => some s
  | .stop _ => none

/-- Taking a frame or a request leaves the trace and the responses as they are. -/
theorem fetch_keeps_histories {s t : State} (h : (fetch s).state = some t) :
    t.wire.trace = s.wire.trace ∧ t.responses = s.responses := by
  unfold fetch at h
  split at h
  next f rest _ =>
    unfold fetchFrame at h
    split at h <;> cases h <;> exact ⟨rfl, rfl⟩
  next =>
    split at h
    next => cases h
    next =>
      unfold fetchRequest at h
      split at h <;> cases h <;> exact ⟨rfl, rfl⟩

/-- All that a step answering a next state can have done: run what it fetched, or hand on the state fetched. -/
theorem step_next_cases {s t : State} (h : step s = .next t) :
    (∃ i u, fetch s = .run i u ∧ exec i u = .next t) ∨ fetch s = .settle t := by
  unfold step at h
  cases hf : fetch s with
  | run i u => rw [hf] at h; exact .inl ⟨i, u, rfl, h⟩
  | settle u => rw [hf] at h; cases h; exact .inr rfl
  | stop f => rw [hf] at h; cases h

/-- Settles O10: the fetch keeps both histories, and what runs then only adds to them. The responses are the history of log 5. -/
theorem traceAndResponsesOnlyGrow : Obligations.TraceAndResponsesOnlyGrow := by
  intro s t h
  obtain ⟨i, u, hfetch, hexec⟩ | hfetch := step_next_cases h
  · obtain ⟨htrace, hresp⟩ := fetch_keeps_histories (t := u) (by rw [hfetch]; rfl)
    rw [← htrace, ← hresp]
    exact exec_histories_grow hexec
  · obtain ⟨htrace, hresp⟩ := fetch_keeps_histories (t := t) (by rw [hfetch]; rfl)
    rw [htrace, hresp]
    exact ⟨List.prefix_rfl, List.prefix_rfl⟩

end Sys2Proof.Machine
end

section
/-! Proofs of the state statements: the strobe (O19), both invariants at reset (O49) and along every step (O50, O51). The idea is one relation on states, `State.Move`, which lists what can happen to a state within a step; a step is a chain of moves, so an invariant is checked against the moves alone. -/

namespace Sys2Proof.Machine

/-! ### The strobe (R33, R35) -/

/-- Settles O19: the strobe is read from IN_FRAME, and outside a frame from a `Stop` in the trace. -/
theorem strobeFollowsTheFrame : Obligations.StrobeFollowsTheFrame := by
  intro s
  constructor
  · intro hin
    simp [State.strobeHigh, hin]
  · intro hout hstop
    simp [State.strobeHigh, hout, hstop]

/-! ### Reset (R39) -/

/-- Settles O49: INIT is 0, the trace is empty and the far end unknown. -/
theorem invariantsHoldAtReset : Obligations.InvariantsHoldAtReset :=
  ⟨⟨rfl, fun h => by cases h⟩, rfl, rfl⟩

/-! ### What the checks ask for (R110, R125) -/

theorem checkPins_eq_none {s : State} : checkPins s = none ↔ s.pinsCfg = true := by
  simp [checkPins]

theorem checkStart_eq_none {s : State} : checkStart s = none ↔ s.pinsCfg = true ∧ s.inFrame = false := by
  cases hp : s.pinsCfg <;> simp [checkStart, hp]

theorem checkStop_eq_none {s : State} : checkStop s = none ↔ s.pinsCfg = true ∧ s.inFrame = true := by
  cases hp : s.pinsCfg <;> simp [checkStop, hp]

theorem checkTransfer_eq_none {d : Dir} {s : State} :
    checkTransfer d s = none ↔ s.pinsCfg = true ∧ s.inFrame = true ∧ s.dioDir = d := by
  cases hp : s.pinsCfg <;> cases hf : s.inFrame <;> simp [checkTransfer, hp, hf]

/-! ### The digit maps BEGIN and BEGIN_MAP accept (R171, R172) -/

theorem permutation_identityMap : Permutation identityMap := by decide

/-- An accepted map is eight entries, each below 8, no two equal, and is taken entry by entry. -/
theorem suppliedMap_eq_some {map : List Byte} {dmap : Vector Position 8} (h : suppliedMap map = some dmap) :
    (∀ m ∈ map, m.toNat < 8) ∧ map.Nodup ∧
      ∃ hlen : map.length = 8, ∀ a : Index, dmap[a] = (map[a.val]'(by omega)).setWidth 3 := by
  unfold suppliedMap at h
  split at h
  next m0 m1 m2 m3 m4 m5 m6 m7 =>
    split at h
    next hvalid =>
      obtain ⟨hbelow, hnodup⟩ := by simpa only [Bool.and_eq_true, List.all_eq_true, decide_eq_true_eq] using hvalid
      cases h
      exact ⟨hbelow, hnodup, rfl, fun a => by fin_cases a <;> rfl⟩
    next => cases h
  next => cases h

theorem permutation_of_suppliedMap {map : List Byte} {dmap : Vector Position 8} (h : suppliedMap map = some dmap) :
    Permutation dmap := by
  obtain ⟨hbelow, hnodup, hlen, hentry⟩ := suppliedMap_eq_some h
  intro a b hab
  have ha := hbelow _ (List.getElem_mem (l := map) (n := a.val) (by omega))
  have hb := hbelow _ (List.getElem_mem (l := map) (n := b.val) (by omega))
  rw [hentry, hentry] at hab
  have hbytes : map[a.val] = map[b.val] := by bv_omega
  exact Fin.ext ((hnodup.getElem_inj_iff).mp hbytes)

theorem one_le_clampDigits (n : Byte) : 1 ≤ (clampDigits n).val := by
  unfold clampDigits
  split
  · exact le_rfl
  · split
    · decide
    · show 1 ≤ n.toNat
      omega

/-! ### Moves: what can happen to a state within a step -/

/-- The far end has read its oldest waiting frame `f`, and `rest` still waits (R71). -/
def State.afterReading (s : State) (f : Frame) (rest : List Frame) : State :=
  { s with wire := { s.wire with pending := rest }, farEnd := s.farEnd.read f }

/-- One move, with the guard under which it is made: the wire events of the transport primitives (R115 to R121), the writes of registers and histories (R13, R27, R29, R30), the configuration of BEGIN (R171, R172), the fault (R233), the taking of a request (R62), and the far end's reading of a frame (R71). -/
inductive State.Move : State → State → Prop
  | start (s : State) (hpins : s.pinsCfg = true) (hframe : s.inFrame = false) :
      Move s ({ s with inFrame := true }.emit .start)
  | stop (s : State) (hpins : s.pinsCfg = true) (hframe : s.inFrame = true) :
      Move s ({ s with inFrame := false }.emit .stop)
  | tx (s : State) (b : Byte) (hpins : s.pinsCfg = true) (hframe : s.inFrame = true) (hdir : s.dioDir = .out) :
      Move s (s.emit (.tx b))
  | rx (s : State) (hpins : s.pinsCfg = true) (hframe : s.inFrame = true) (hdir : s.dioDir = .in_) :
      Move s (s.draw.emit (.rx s.nextDraw))
  | dirIn (s : State) (hpins : s.pinsCfg = true) : Move s ({ s with dioDir := .in_ }.emit .dirIn)
  | dirOut (s : State) (hpins : s.pinsCfg = true) : Move s ({ s with dioDir := .out }.emit .dirOut)
  | respond (s : State) (v : Byte) : Move s (s.respond v)
  | setDig (s : State) (i : Index) (b : Byte) : Move s (s.setDig i b)
  | setLed (s : State) (i : Index) (on : Bool) : Move s (s.setLed i on)
  | setBright (s : State) (l : Level) : Move s { s with bright := l }
  | configure (s : State) (nb nl nd : Byte) (dmap : Vector Position 8) (hmap : Permutation dmap) :
      Move s (configured nb nl nd dmap s)
  | takeFault (s : State) (c : FaultCode) (request : List Byte) : Move s (s.takeFault c request)
  | takeRequest (s : State) (rest : List Byte) : Move s { s with requests := rest }
  | readFrame (s : State) (f : Frame) (rest : List Frame) (hpending : s.wire.pending = f :: rest) :
      Move s (s.afterReading f rest)

/-- A chain of moves. -/
abbrev State.Moves : State → State → Prop := Relation.ReflTransGen State.Move

/-- What every move keeps, a chain of moves keeps. -/
theorem State.Moves.keeps {P : State → Prop} (hmove : ∀ s t, State.Move s t → P s → P t) {s t : State}
    (h : s.Moves t) (hs : P s) : P t := by
  induction h with
  | refl => exact hs
  | tail _ hlast ih => exact hmove _ _ hlast ih

/-! ### Procedures that only make moves -/

/-- A procedure every run of which is a chain of moves, whether it completes or raises a fault. -/
def Moving {α : Type} (f : State → Sub α) : Prop := ∀ s : State, s.Moves (f s).state

theorem Moving.ok {α : Type} (a : α) : Moving (Sub.ok a) := fun _ => .refl

/-- A move, then a moving procedure. -/
theorem Moving.after {α : Type} {f : State → Sub α} (hf : Moving f) {s t : State} (h : State.Move s t) :
    s.Moves (f t).state := .head h (hf t)

theorem Moving.bind {α β : Type} {f : State → Sub α} {g : α → State → Sub β} (hf : Moving f)
    (hg : ∀ a, Moving (g a)) : Moving fun s => (f s).bind g := by
  intro s
  have hs := hf s
  show s.Moves ((f s).bind g).state
  cases h : f s with
  | ok a t => rw [h] at hs; exact hs.trans (hg a t)
  | raise c t => rw [h] at hs; exact hs

theorem Moving.each {α : Type} {f : α → State → Sub Unit} (hf : ∀ x, Moving (f x)) (xs : List α) :
    Moving (Sub.each f xs) := by
  induction xs with
  | nil => exact .ok ()
  | cons x xs ih => exact (hf x).bind fun _ => ih

/-- Behind a check, the procedure has to move only from states that pass it. -/
theorem moving_guarded {α : Type} {check : State → Option FaultCode} {f : State → Sub α}
    (hf : ∀ s : State, check s = none → s.Moves (f s).state) : Moving (guarded check f) := by
  intro s
  cases h : check s with
  | some c => rw [guarded_stop h]; exact .refl
  | none => rw [guarded_pass h]; exact hf s h

/-- A procedure behind the INIT check (R170). -/
theorem Moving.sequenced {f : State → Sub Unit} (hf : Moving f) : Moving (guarded checkInit f) :=
  moving_guarded fun s _ => hf s

theorem Moving.ite {f g : State → Sub Unit} (hf : Moving f) (hg : Moving g) (p : State → Prop) [DecidablePred p] :
    Moving fun s => if p s then f s else g s := by
  intro s
  by_cases h : p s
  · simpa [h] using hf s
  · simpa [h] using hg s

theorem moving_onIndex {body : Index → State → Sub Unit} (hb : ∀ k, Moving (body k)) (i : Byte) :
    Moving (onIndex i body) := by
  intro s
  unfold onIndex
  split
  · exact hb _ s
  · exact .refl

/-- A request whose pseudocode is moving is a chain of moves, the fault it may take included. -/
theorem Moving.perform {body : State → Sub Unit} (hb : Moving body) {i : Instr} {s t : State}
    (h : perform i s body = .next t) : s.Moves t := by
  have hs := hb s
  obtain ⟨r, -, hr⟩ | ⟨-, u, hu, hr⟩ | ⟨-, c, u, hu, hr⟩ := perform_cases i s body
  · cases hr.symm.trans h
  · cases hr.symm.trans h
    rwa [hu] at hs
  · cases hr.symm.trans h
    rw [hu] at hs
    exact hs.tail (.takeFault u c _)

/-! ### The transport primitives and the frame procedures (R115 to R124) -/

theorem moving_openFrame : Moving openFrame :=
  moving_guarded fun s h =>
    have ⟨hpins, hframe⟩ := checkStart_eq_none.mp h
    .single (.start s hpins hframe)

theorem moving_closeFrame : Moving closeFrame :=
  moving_guarded fun s h =>
    have ⟨hpins, hframe⟩ := checkStop_eq_none.mp h
    .single (.stop s hpins hframe)

theorem moving_sendByte (b : Byte) : Moving (sendByte b) :=
  moving_guarded fun s h =>
    have ⟨hpins, hframe, hdir⟩ := checkTransfer_eq_none.mp h
    .single (.tx s b hpins hframe hdir)

theorem moving_receiveByte : Moving receiveByte :=
  moving_guarded fun s h =>
    have ⟨hpins, hframe, hdir⟩ := checkTransfer_eq_none.mp h
    .single (.rx s hpins hframe hdir)

theorem moving_dioIn : Moving dioIn := moving_guarded fun s h => .single (.dirIn s (checkPins_eq_none.mp h))

theorem moving_dioOut : Moving dioOut := moving_guarded fun s h => .single (.dirOut s (checkPins_eq_none.mp h))

theorem moving_sendCommand (b : Byte) : Moving (sendCommand b) :=
  moving_openFrame.bind fun _ => (moving_sendByte b).bind fun _ => moving_closeFrame

theorem moving_fixedWrite (slot : Slot) (d : Byte) : Moving (fixedWrite slot d) :=
  (moving_sendCommand _).bind fun _ => moving_openFrame.bind fun _ => (moving_sendByte _).bind fun _ =>
    (moving_sendByte d).bind fun _ => moving_closeFrame

theorem moving_autoWrite (ds : List Byte) : Moving (autoWrite ds) :=
  (moving_sendCommand _).bind fun _ => moving_openFrame.bind fun _ => (moving_sendByte _).bind fun _ =>
    (Moving.each moving_sendByte ds).bind fun _ => moving_closeFrame

theorem moving_keyScan : Moving keyScan :=
  moving_openFrame.bind fun _ => (moving_sendByte _).bind fun _ => moving_dioIn.bind fun _ =>
    moving_receiveByte.bind fun _ => moving_receiveByte.bind fun _ => moving_receiveByte.bind fun _ =>
      moving_receiveByte.bind fun _ => moving_dioOut.bind fun _ => moving_closeFrame.bind fun _ => .ok _

/-! ### The register file and the sequencer's procedures (R150 to R189) -/

theorem moving_respond (v : State → Byte) : Moving fun s => .ok () (s.respond (v s)) :=
  fun s => .single (.respond s (v s))

theorem moving_setDig (b : State → Byte) (k : Index) : Moving fun s => .ok () (s.setDig k (b s)) :=
  fun s => .single (.setDig s k (b s))

theorem moving_setLed (on : Bool) (k : Index) : Moving fun s => .ok () (s.setLed k on) :=
  fun s => .single (.setLed s k on)

theorem moving_showLed (i : Nat) (on : Bool) : Moving (showLed i on) := by
  intro s
  unfold showLed
  split
  · exact .refl
  · exact (moving_fixedWrite _ _).after (.setLed s _ on)

theorem moving_showDig (k : Index) (b : Byte) (s : State) : s.Moves (showDig k b s).state :=
  (moving_fixedWrite _ b).after (.setDig s k b)

theorem moving_showGlyph (d : Nat) (v : Byte) (raw : Bool) : Moving (showGlyph d v raw) := by
  intro s
  unfold showGlyph
  split
  · exact .refl
  · exact moving_showDig _ _ s

theorem moving_showDp (d : Nat) (on : Bool) : Moving (showDp d on) := by
  intro s
  unfold showDp
  split
  · exact .refl
  · exact moving_showDig _ _ s

theorem moving_showDigits (L : List Nat) (d : Nat) : Moving (showDigits d L) := by
  induction L generalizing d with
  | nil => exact .ok ()
  | cons v vs ih => exact (moving_showGlyph d _ false).bind fun _ => ih (d + 1)

theorem moving_showNumber (d n : Nat) (digits : List Nat) : Moving (showNumber d n digits) :=
  .ite (moving_showDigits digits d) (.ok ()) _

theorem moving_clearDigit (i : Nat) : Moving (clearDigit i) :=
  (moving_showLed i false).bind fun _ => (moving_showGlyph i _ true).bind fun _ => moving_showDp i false

theorem moving_clearAll : Moving clearAll :=
  fun s => Moving.each moving_clearDigit (List.range s.numDigits.val) s

theorem moving_brightness (level : Byte) : Moving (brightness level) :=
  fun s => (moving_sendCommand _).after (.setBright s _)

/-- BEGIN configures the block and drives the line, then clears and sets the brightness (R171). -/
theorem moving_begin {dmap : Vector Position 8} (hmap : Permutation dmap) (nb nl nd br : Byte) :
    Moving (begin_ nb nl nd br dmap) := fun s =>
  .head (.configure s nb nl nd dmap hmap) <|
    (moving_clearAll.bind fun _ => moving_brightness br).after (.dirOut (configured nb nl nd dmap s) rfl)

theorem moving_beginMap (nb nl nd br : Byte) (map : List Byte) :
    Moving fun s => match suppliedMap map with
      | none => .raise .dmapInvalid s
      | some dmap => begin_ nb nl nd br dmap s := by
  cases hmap : suppliedMap map with
  | none => exact fun _ => .refl
  | some dmap => exact moving_begin (permutation_of_suppliedMap hmap) nb nl nd br

/-! ### Requests -/

theorem exec_request_moves {i : Instr} (hi : isRequest i = true) {s t : State} (h : exec i s = .next t) :
    s.Moves t := by
  cases i with
  | tStart => exact moving_openFrame.perform h
  | tStop => exact moving_closeFrame.perform h
  | tWrbyte b => exact (moving_sendByte b).perform h
  | tRdbyte => exact (moving_receiveByte.bind fun v => moving_respond fun _ => v).perform h
  | tWrcmd b => exact (moving_sendCommand b).perform h
  | tDioIn => exact moving_dioIn.perform h
  | tDioOut => exact moving_dioOut.perform h
  | sEncode idx => exact (moving_respond fun _ => segEncode idx).perform (i := .sEncode idx) h
  | sRawenc bits => exact (moving_respond fun _ => rawEncode bits).perform (i := .sRawenc bits) h
  | rSetdig i b => exact (moving_onIndex (moving_setDig fun _ => b) i).perform h
  | rGetdig i => exact (moving_onIndex (fun k => moving_respond fun s => s.dig[k]) i).perform h
  | rSetdp i on => exact (moving_onIndex (fun k => moving_setDig (fun s => mergeDp s.dig[k] on) k) i).perform h
  | rSetled i on => exact (moving_onIndex (moving_setLed on) i).perform h
  | rGetledm => exact (moving_respond State.ledm).perform (i := .rGetledm) h
  | rPhys l =>
    exact (moving_onIndex (fun k => moving_respond fun s => (s.dmap[k]).setWidth 8) l).sequenced.perform h
  | beginId nb nl nd br => exact (moving_begin permutation_identityMap nb nl nd br).perform h
  | beginMap nb nl nd br map => exact (moving_beginMap nb nl nd br map).perform h
  | displayOff => exact (moving_sendCommand _).sequenced.perform h
  | clear => exact moving_clearAll.sequenced.perform h
  | setBrightness level => exact (moving_brightness level).sequenced.perform h
  | test enable => exact (Moving.sequenced fun s => moving_autoWrite (testBytes enable s) s).perform h
  | showByteBinary v lsbFirst =>
    exact (Moving.ite (.ok ()) (.each (fun k => moving_showGlyph k _ false) _) _).sequenced.perform h
  | showChar d v raw => exact (moving_showGlyph d.toNat v raw).sequenced.perform h
  | showInt8 d v decimal => exact (moving_showNumber d.toNat 2 _).sequenced.perform h
  | showInt12 d v decimal => exact (moving_showNumber d.toNat 3 _).sequenced.perform h
  | showInt16 d v decimal => exact (moving_showNumber d.toNat 4 _).sequenced.perform h
  | showLedsBinary v lsbFirst =>
    exact (Moving.ite (.ok ()) (.each (fun k => moving_showLed k _) _) _).sequenced.perform h
  | setLed i on => exact (moving_showLed i.toNat on).sequenced.perform h
  | setDp d on => exact (moving_showDp d.toNat on).sequenced.perform h
  | readButtons =>
    exact (Moving.ite (moving_respond _) (moving_keyScan.bind fun b => moving_respond _) _).sequenced.perform h
  | wDataAuto _ | wDataRead _ | wDataFixed _ | wDispOff _ | wDispOn _ _ | wAddr _ _ => cases hi

/-! ### The host's stream holds host requests only (R93, R94) -/

/-- What is decoded, if it is a complete request, is a host request. -/
def HostOnly : Decoded → Prop
  | .request i _ => isRequest i = true
  | .illegalRequest _ _ | .illegalOperand _ _ | .incomplete => True

/-- Row by row of R93, through the row's format: each completes with its own constructor, or not at all. -/
theorem hostOnly_decodeOpcode (op : Byte) (bs : List Byte) : HostOnly (decodeOpcode op bs) := by
  unfold decodeOpcode operandU8 operandU8U8 operandBool operandU8Bool operandU8U8Bool operandU8U16Bool operandU8x4
    operandU8x4Map
  split
  all_goals
    repeat' split
    all_goals simp [HostOnly, isRequest]

theorem isRequest_of_decodeRequest {bytes rest : List Byte} {i : Instr} (h : decodeRequest bytes = .request i rest) :
    isRequest i = true := by
  cases bytes with
  | nil => cases h
  | cons op operands =>
    have hhost : HostOnly (decodeRequest (op :: operands)) := hostOnly_decodeOpcode op operands
    rwa [h] at hhost

/-! ### Steps are chains of moves (R62, R71, R94, R95) -/

theorem exec_wireCmd (cmd : WireCmd) (tail : Frame) (s : State) :
    exec (cmd.instr tail) s = .next { s with farEnd := s.farEnd.command tail cmd } := by
  cases cmd <;> rfl

/-- While a frame waits, a step is the far end's reading of the oldest one. -/
theorem step_of_pending {s : State} {f : Frame} {rest : List Frame} (h : s.wire.pending = f :: rest) :
    step s = .next (s.afterReading f rest) := by
  simp only [step, fetch, h, fetchFrame, decodeFrame, State.afterReading, FarEnd.read]
  cases f.sent with
  | nil => rfl
  | cons c bytes =>
    dsimp only
    cases classify c with
    | none => rfl
    | some cmd => exact exec_wireCmd cmd _ _

/-- Taking a request is a move, and so is the fault of one that is illegal (R94). -/
theorem fetchRequest_moves {s t : State} (h : (fetchRequest s).state = some t) : s.Moves t := by
  unfold fetchRequest at h
  split at h <;> cases h
  · exact .single (.takeRequest s _)
  · exact .head (.takeRequest s _) (.single (.takeFault _ _ _))
  · exact .head (.takeRequest s _) (.single (.takeFault _ _ _))
  · exact .refl

theorem isRequest_of_fetchRequest {s u : State} {i : Instr} (h : fetchRequest s = .run i u) : isRequest i = true := by
  unfold fetchRequest at h
  split at h
  next hdecode =>
    cases h
    exact isRequest_of_decodeRequest hdecode
  all_goals cases h

/-- With no frame waiting and no fault set, a step takes what the request stream begins with. -/
theorem fetch_of_settled {s : State} (hpending : s.wire.pending = []) (hfault : s.fault = none) :
    fetch s = fetchRequest s := by
  simp [fetch, hpending, hfault]

theorem fetch_latched {s : State} {r : FaultRecord} (hpending : s.wire.pending = []) (hfault : s.fault = some r) :
    fetch s = .stop (.latched r.code) := by
  simp [fetch, hpending, hfault]

/-- Every step is a chain of moves. -/
theorem step_moves {s t : State} (h : step s = .next t) : s.Moves t := by
  cases hpending : s.wire.pending with
  | cons f rest =>
    cases (step_of_pending hpending).symm.trans h
    exact .single (.readFrame s f rest hpending)
  | nil =>
    cases hfault : s.fault with
    | some r => simp [step, fetch_latched hpending hfault] at h
    | none =>
      have hreq := fetch_of_settled hpending hfault
      obtain ⟨i, u, hfetch, hexec⟩ | hfetch := step_next_cases h
      · rw [hreq] at hfetch
        have hmoves : s.Moves u := fetchRequest_moves (by rw [hfetch]; rfl)
        exact hmoves.trans (exec_request_moves (isRequest_of_fetchRequest hfetch) hexec)
      · exact fetchRequest_moves (by rw [← hreq, hfetch]; rfl)

/-! ### The configuration (R28, R32, R41) -/

/-- Only BEGIN and BEGIN_MAP write what the invariant speaks of, and they establish it. -/
theorem State.Move.keeps_configInv {s t : State} (h : State.Move s t) (hs : s.ConfigInv) : t.ConfigInv := by
  cases h with
  | configure nb nl nd dmap hmap => exact ⟨rfl, fun _ => ⟨one_le_clampDigits nd, hmap⟩⟩
  | _ => exact hs

/-- Settles O50: a step is a chain of moves, each of which keeps the configuration. -/
theorem stepKeepsTheConfiguration : Obligations.StepKeepsTheConfiguration := by
  intro s t hs h
  exact (step_moves h).keeps (fun _ _ hmove => hmove.keeps_configInv) hs

/-! ### The trace as frames, event by event (R71) -/

theorem openFrameOf_append (trace : List Event) (e : Event) :
    openFrameOf (trace ++ [e]) = (frameScan (framesOf trace, openFrameOf trace) e).2 := by
  simp [openFrameOf, framesOf]

theorem openFrameOf_append_dirIn (trace : List Event) : openFrameOf (trace ++ [.dirIn]) = openFrameOf trace := by
  rw [openFrameOf_append]
  cases openFrameOf trace <;> rfl

theorem openFrameOf_append_dirOut (trace : List Event) : openFrameOf (trace ++ [.dirOut]) = openFrameOf trace := by
  rw [openFrameOf_append]
  cases openFrameOf trace <;> rfl

theorem framesOf_append (trace : List Event) (e : Event) :
    framesOf (trace ++ [e]) = (frameScan (framesOf trace, openFrameOf trace) e).1 := by
  simp [openFrameOf, framesOf]

/-- No event but a `Stop` closes a frame. -/
theorem framesOf_append_of_ne_stop (trace : List Event) {e : Event} (he : e ≠ .stop) :
    framesOf (trace ++ [e]) = framesOf trace := by
  rw [framesOf_append]
  cases e with
  | stop => exact absurd rfl he
  | _ => cases openFrameOf trace <;> rfl

theorem FarEnd.reading_append_of_ne_stop (trace : List Event) {e : Event} (he : e ≠ .stop) :
    FarEnd.reading (trace ++ [e]) = FarEnd.reading trace := by
  rw [FarEnd.reading, framesOf_append_of_ne_stop trace he, FarEnd.reading]

/-- A `Stop` adds the open frame to the reading. -/
theorem FarEnd.reading_append_stop {trace : List Event} {f : Frame} (hopen : openFrameOf trace = some f) :
    FarEnd.reading (trace ++ [.stop]) = (FarEnd.reading trace).read f := by
  simp [FarEnd.reading, framesOf_append, hopen, frameScan]

theorem Wire.emit_pending_of_ne_stop (w : Wire) {e : Event} (he : e ≠ .stop) : (w.emit e).pending = w.pending := by
  cases e with
  | stop => exact absurd rfl he
  | _ => rfl

/-! ### The reading along a step (R33, R37, R71) -/

/-- An event that is no `Stop` hands the far end no frame, in the trace as on the wire. -/
theorem State.reading_emit_of_ne_stop {s : State} {e : Event} (he : e ≠ .stop)
    (hread : s.settled.farEnd = FarEnd.reading s.wire.trace) :
    (s.emit e).settled.farEnd = FarEnd.reading (s.emit e).wire.trace := by
  simpa [Wire.emit_pending_of_ne_stop _ he, FarEnd.reading_append_of_ne_stop _ he] using hread

/-- The guards of the transport primitives (R115 to R118) make each event the next one of the frame on the line; a `Stop` hands to the far end the frame that it closes in the trace. -/
theorem State.Move.keeps_wireInv {s t : State} (h : State.Move s t) (hs : s.WireInv) : t.WireInv := by
  obtain ⟨hopen, hread⟩ := hs
  cases h with
  | start _ hframe =>
    exact ⟨by simp [openFrameOf_append, frameScan], State.reading_emit_of_ne_stop nofun hread⟩
  | stop _ hframe =>
    rw [hframe] at hopen
    refine ⟨by simp [openFrameOf_append, hopen, frameScan], ?_⟩
    simpa [FarEnd.reading_append_stop hopen] using congrArg (FarEnd.read · s.wire.line) hread
  | tx b _ hframe _ =>
    exact ⟨by simp [openFrameOf_append, hopen, hframe, frameScan], State.reading_emit_of_ne_stop nofun hread⟩
  | rx _ hframe _ =>
    exact ⟨by simp [openFrameOf_append, hopen, hframe, frameScan], State.reading_emit_of_ne_stop nofun hread⟩
  | dirIn _ =>
    exact ⟨(openFrameOf_append_dirIn _).trans hopen, State.reading_emit_of_ne_stop nofun hread⟩
  | dirOut _ =>
    exact ⟨(openFrameOf_append_dirOut _).trans hopen, State.reading_emit_of_ne_stop nofun hread⟩
  | readFrame f rest hpending =>
    exact ⟨hopen, by simpa [State.afterReading, hpending] using hread⟩
  | _ => exact ⟨hopen, hread⟩

/-- Settles O51: a step is a chain of moves, each of which keeps the reading. -/
theorem stepKeepsTheReading : Obligations.StepKeepsTheReading := by
  intro s t hs h
  exact (step_moves h).keeps (fun _ _ hmove => hmove.keeps_wireInv) hs

end Sys2Proof.Machine
end

section
/-! Proofs of the far end's statements: what a step takes (O6, O7), the order of bits (O18), and what each kind of frame does to the far end and shows (O56 to O60). -/

namespace Sys2Proof.Machine

/-! ### What a step takes (R62, R71) -/

/-- Settles O6: with no frame waiting and no fault, the fetch is that of the request (log 1). -/
theorem stepRunsTheDecodedRequest : Obligations.StepRunsTheDecodedRequest := by
  intro s i rest hpending hfault hdecode
  have hfetch : fetch s = .run i { s with requests := rest } := by
    rw [fetch_of_settled hpending hfault]
    simp [fetchRequest, hdecode]
  simp [step, hfetch]

theorem fetch_of_pending {s : State} {f : Frame} {rest : List Frame} (h : s.wire.pending = f :: rest) :
    fetch s = fetchFrame f { s with wire := { s.wire with pending := rest } } := by
  simp [fetch, h]

/-- Settles O7: the fetch of a frame, and its reading (R71, R78; logs 12 and 16). -/
theorem stepReadsTheOldestFrame : Obligations.StepReadsTheOldestFrame := by
  intro s f fs hpending
  refine ⟨fun i hdecode => ?_, fun hdecode => ?_, step_of_pending hpending⟩
  · simp [step, fetch_of_pending hpending, fetchFrame, hdecode]
  · simp only [step, fetch_of_pending hpending, fetchFrame, hdecode]
    rfl

/-! ### The order of bits (R112 to R114) -/

/-- The levels of the n low bits, least significant first, assemble to the number they make. -/
theorem rxAssemble_testBits (n x : Nat) : rxAssemble ((List.range n).map x.testBit) = x % 2 ^ n := by
  induction n generalizing x with
  | zero => simp [rxAssemble, Nat.mod_one]
  | succ n ih =>
    have htail : (List.range n).map (x.testBit ∘ Nat.succ) = (List.range n).map (x / 2).testBit :=
      List.map_congr_left fun k _ => Nat.testBit_succ x k
    rw [List.range_succ_eq_map, List.map_cons, List.map_map, htail, rxAssemble, ih, Nat.testBit_zero, pow_succ',
      Nat.mod_mul]
    rcases Nat.mod_two_eq_zero_or_one x with h | h <;> simp [h]

theorem rxAssemble_txLevels (b : Byte) : rxAssemble (txLevels b) = b.toNat :=
  (rxAssemble_testBits 8 b.toNat).trans (Nat.mod_eq_of_lt b.isLt)

/-- Settles O18. -/
theorem bitsGoLeastSignificantFirst : Obligations.BitsGoLeastSignificantFirst :=
  fun b => ⟨rfl, rxAssemble_txLevels b⟩

/-! ### Command bytes (R96 to R98, R102) -/

/-- The far end recognises the byte of every command. -/
theorem classify_byte (cmd : WireCmd) : classify cmd.byte = some cmd := by
  cases cmd with
  | dataAuto => rfl
  | dataRead => rfl
  | dataFixed => rfl
  | dispOff => rfl
  | dispOn b => revert b; decide
  | addr slot => revert slot; decide

/-- R102: the first bytes that open no command. -/
theorem classify_eq_none {c : Byte}
    (h : c.toNat ≤ 0x3F ∨ c.toNat = 0x41 ∨ c.toNat = 0x43 ∨ (0x45 ≤ c.toNat ∧ c.toNat ≤ 0x7F) ∨
      (0x81 ≤ c.toNat ∧ c.toNat ≤ 0x87) ∨ (0x90 ≤ c.toNat ∧ c.toNat ≤ 0xBF) ∨ 0xD0 ≤ c.toNat) :
    classify c = none := by
  have hdata : c ≠ 0x40#8 ∧ c ≠ 0x42#8 ∧ c ≠ 0x44#8 ∧ c ≠ 0x80#8 := by
    refine ⟨?_, ?_, ?_, ?_⟩ <;> bv_omega
  have hon : c >>> 3 ≠ 0b10001#8 := by bv_omega
  have haddr : c >>> 4 ≠ 0b1100#8 := by bv_omega
  obtain ⟨h40, h42, h44, h80⟩ := hdata
  simp [classify, h40, h42, h44, h80, hon, haddr]

/-! ### Reading a frame (R71, R78) -/

@[simp] theorem Frame.empty_ne_cons (b : Byte) (bs : List Byte) (n : Nat) : (⟨b :: bs, n⟩ : Frame) ≠ .empty := by
  simp [Frame.empty]

/-- A frame that opens with a command's byte is read as that command. -/
theorem FarEnd.read_command (e : FarEnd) (cmd : WireCmd) (bytes : List Byte) (reads : Nat) :
    e.read ⟨cmd.byte :: bytes, reads⟩ = e.command ⟨bytes, reads⟩ cmd := by
  simp [FarEnd.read, classify_byte]

/-- Settles O59: such a first byte is no command's, and of the frames that send nothing the one that reads nothing is the empty one (R78, log 16). -/
theorem framesOutsideTheTableHavoc : Obligations.FramesOutsideTheTableHavoc := by
  refine ⟨fun c more n e hc => ?_, fun e => ?_, fun n e hn => ?_⟩
  · simp [FarEnd.read, classify_eq_none hc, FarEnd.uncovered]
  · simp [FarEnd.read, FarEnd.uncovered, Frame.empty]
  · simp [FarEnd.read, FarEnd.uncovered, Frame.empty, hn]

/-! ### Data and display commands (R72 to R75) -/

/-- Settles O56: each mode command tests that its frame sends no more. -/
theorem dataCommandsSetTheMode : Obligations.DataCommandsSetTheMode := by
  intro s n
  refine ⟨rfl, rfl, rfl, fun x more => ⟨?_, ?_, rfl⟩⟩
  · simp [exec, execWDataAuto, FarEnd.dataAuto]
  · simp [exec, execWDataFixed, FarEnd.dataFixed]

/-- Settles O57: each display command tests that its frame is its one byte. -/
theorem displayCommandsSetTheDisplay : Obligations.DisplayCommandsSetTheDisplay := by
  intro s b n
  refine ⟨rfl, rfl, fun x more => ⟨?_, ?_⟩⟩
  · simp [exec, execWDispOff, FarEnd.dispOff]
  · simp [exec, execWDispOn, FarEnd.dispOn]

/-! ### Address frames (R76, R77) -/

/-- A write from slot a puts byte k of its data into slot a + k, and nothing else. -/
theorem dramWrite_getElem (ds : List Byte) (dram : Vector (Known Byte) 16) (a j : Nat) (hj : j < 16) :
    (dramWrite dram a ds)[j] = if h : a ≤ j ∧ j - a < ds.length then .known ds[j - a] else dram[j] := by
  induction ds generalizing dram a with
  | nil => simp [dramWrite]
  | cons d ds ih =>
    rw [dramWrite, ih, Vector.getElem_setIfInBounds]
    rcases Nat.lt_trichotomy j a with hlt | rfl | hgt
    · have hout : ¬ a + 1 ≤ j := by omega
      simp [hout, hlt.ne', hlt.not_ge]
    · simp
    · obtain ⟨k, rfl⟩ := Nat.exists_eq_add_of_lt hgt
      simp [Nat.add_sub_add_left, Nat.add_assoc]

theorem dramWrite_singleton (dram : Vector (Known Byte) 16) (slot : Slot) (d : Byte) :
    dramWrite dram slot.toNat [d] = dram.set slot.toNat (.known d) := by
  ext j hj
  simp [dramWrite, Vector.getElem_set, Vector.getElem_setIfInBounds]

/-- An address frame without reads, in a mode that takes it (R76, R77). -/
theorem FarEnd.addr_auto {e : FarEnd} (h : e.dmode = .known .auto) (a : Slot) (ds : List Byte) :
    e.addr a ⟨ds, 0⟩ = e.addrAuto a.toNat ds := by simp [FarEnd.addr, h]

theorem FarEnd.addr_fixed {e : FarEnd} (h : e.dmode = .known .fixed) (a : Slot) (ds : List Byte) :
    e.addr a ⟨ds, 0⟩ = e.addrFixed a.toNat ds := by simp [FarEnd.addr, h]

theorem FarEnd.addr_havoc {e : FarEnd} (h : e.dmode = .known .read ∨ e.dmode = .known .none ∨ e.dmode = .unknown)
    (a : Slot) (tail : Frame) : e.addr a tail = .unknown := by
  rcases h with h | h | h <;> simp [FarEnd.addr, h]

theorem FarEnd.addrFixed_havoc (e : FarEnd) (a : Nat) {ds : List Byte} (h : 2 ≤ ds.length) :
    e.addrFixed a ds = .unknown := by
  match ds with
  | [] => simp at h
  | [_] => simp at h
  | _ :: _ :: _ => rfl

theorem exec_wAddr (a : Slot) (tail : Frame) (s : State) :
    exec (.wAddr a tail) s = .next { s with farEnd := s.farEnd.addr a tail } := rfl

/-- Settles O58: mode by mode; the slots of an AUTO write are those of `dramWrite` (logs 14 and 15). -/
theorem addressFramesWriteTheirSlots : Obligations.AddressFramesWriteTheirSlots := by
  intro s a ds
  refine ⟨fun hauto hlen => ?_, fun hauto hlen => ?_, fun hfixed => ⟨?_, fun d => ?_, fun hlen => ?_⟩,
    fun hmode => ?_⟩
  · refine ⟨dramWrite s.farEnd.dram a.toNat ds, ?_, fun j => dramWrite_getElem ds _ _ _ j.isLt⟩
    rw [exec_wAddr, FarEnd.addr_auto hauto, FarEnd.addrAuto, if_pos hlen]
  · refine ⟨dramWrite FarEnd.unknown.dram a.toNat ds, ?_, fun j => ?_⟩
    · rw [exec_wAddr, FarEnd.addr_auto hauto, FarEnd.addrAuto, if_neg (by omega)]
      rfl
    · simp [dramWrite_getElem, FarEnd.unknown]
  · rw [exec_wAddr, FarEnd.addr_fixed hfixed, FarEnd.addrFixed]
  · rw [exec_wAddr, FarEnd.addr_fixed hfixed, FarEnd.addrFixed, dramWrite_singleton]
  · rw [exec_wAddr, FarEnd.addr_fixed hfixed, FarEnd.addrFixed_havoc _ _ hlen]
  · rw [exec_wAddr, FarEnd.addr_havoc hmode]

/-! ### What is shown (R79) -/

/-- Settles O60: by the state of the display (log 18). -/
theorem positionsShowTheirSlots : Obligations.PositionsShowTheirSlots := by
  intro e p
  constructor
  · intro hoff
    simp [FarEnd.shown, hoff, Shown.nothing]
  · intro b x y hon hseg hled
    exact ⟨x.setWidth 7, by simp, by simp [FarEnd.shown, hon, hseg, hled, Known.map]⟩

end Sys2Proof.Machine
end

section
/-! Proofs of what the sequencer writes: the frame shapes it emits (O48), and the far end as the shadow's mirror (O52). The idea is one relation on states, `State.Write`, which lists what a completed request of the sequencer does at a time, each emission a whole shape together with the shadow write that it carries; a completed request but TEST is a chain of writes, so shapes and mirror are checked against the writes alone. TEST writes the far end without the shadow, and is taken apart on its own. -/

namespace Sys2Proof.Machine

/-! ### Shapes as frames (R71, R119, R122 to R124) -/

/-- The frames a shape hands to the far end. -/
def Shape.frames : Shape → List Frame
  | .command c => [⟨[c], 0⟩]
  | .fixed slot d => [⟨[WireCmd.dataFixed.byte], 0⟩, ⟨[(WireCmd.addr slot).byte, d], 0⟩]
  | .auto ds => [⟨[WireCmd.dataAuto.byte], 0⟩, ⟨(WireCmd.addr 0#4).byte :: ds, 0⟩]
  | .scan _ _ _ _ => [⟨[WireCmd.dataRead.byte], 4⟩]

/-- A frame that only sends. -/
theorem Wire.emits_sends_pending (w : Wire) (bytes : List Byte) :
    (w.emits (.start :: bytes.map .tx ++ [.stop])).pending = w.pending ++ [⟨bytes, 0⟩] := by
  have hsent : (bytes.map Event.tx).filterMap Event.sentByte = bytes := by
    simp [List.filterMap_map, Function.comp_def, Event.sentByte]
  have hreads : (bytes.map Event.tx).filter Event.isRead = [] := by simp [Event.isRead]
  rw [Wire.emits_frame_pending w _ (by simp) (by simp), hsent, hreads]
  rfl

/-- Each shape is one or two whole frames. -/
theorem Shape.emits_pending (x : Shape) (w : Wire) : (w.emits x.events).pending = w.pending ++ x.frames := by
  cases x with
  | command c => exact w.emits_sends_pending [c]
  | fixed slot d =>
    have hsplit : (Shape.fixed slot d).events =
        (.start :: [WireCmd.dataFixed.byte].map .tx ++ [.stop]) ++
          (.start :: [(WireCmd.addr slot).byte, d].map .tx ++ [.stop]) := rfl
    rw [hsplit, Wire.emits_append, Wire.emits_sends_pending, Wire.emits_sends_pending]
    simp [Shape.frames]
  | auto ds =>
    have hsplit : (Shape.auto ds).events =
        (.start :: [WireCmd.dataAuto.byte].map .tx ++ [.stop]) ++
          (.start :: ((WireCmd.addr 0#4).byte :: ds).map .tx ++ [.stop]) := rfl
    rw [hsplit, Wire.emits_append, Wire.emits_sends_pending, Wire.emits_sends_pending]
    simp [Shape.frames]
  | scan b0 b1 b2 b3 =>
    exact w.emits_frame_pending [.tx 0x42#8, .dirIn, .rx b0, .rx b1, .rx b2, .rx b3, .dirOut] (by simp) (by simp)

/-! ### What the far end reads in a shape (R72 to R77) -/

/-- The far end after the frames of a shape. -/
def FarEnd.afterShape (e : FarEnd) (x : Shape) : FarEnd := x.frames.foldl FarEnd.read e

/-- The bytes of the display commands (R75, R97). -/
theorem exists_display_command {c : Byte} (h : (Shape.command c).legal) :
    c = WireCmd.dispOff.byte ∨ ∃ b, c = (WireCmd.dispOn b).byte := by
  rcases h with rfl | ⟨hlow, hhigh⟩
  · exact .inl rfl
  · refine .inr ⟨c.setWidth 3, ?_⟩
    revert c
    decide

theorem FarEnd.afterShape_command (e : FarEnd) {c : Byte} (h : (Shape.command c).legal) :
    ∃ d, e.afterShape (.command c) = { e with disp := .known d } := by
  rcases exists_display_command h with rfl | ⟨b, rfl⟩
  · exact ⟨.off, e.read_command .dispOff [] 0⟩
  · exact ⟨.on b, e.read_command (.dispOn b) [] 0⟩

theorem FarEnd.afterShape_fixed (e : FarEnd) (slot : Slot) (d : Byte) :
    e.afterShape (.fixed slot d) =
      { e with dmode := .known .fixed, dram := e.dram.set slot.toNat (.known d) } := by
  have hmode : e.read ⟨[WireCmd.dataFixed.byte], 0⟩ = { e with dmode := .known .fixed } :=
    e.read_command .dataFixed [] 0
  simp only [FarEnd.afterShape, Shape.frames, List.foldl_cons, List.foldl_nil, hmode, FarEnd.read_command,
    FarEnd.command]
  rw [FarEnd.addr_fixed rfl, FarEnd.addrFixed, dramWrite_singleton]

theorem FarEnd.afterShape_auto (e : FarEnd) {ds : List Byte} (h : ds.length ≤ 16) :
    e.afterShape (.auto ds) = { e with dmode := .known .auto, dram := dramWrite e.dram 0 ds } := by
  have hmode : e.read ⟨[WireCmd.dataAuto.byte], 0⟩ = { e with dmode := .known .auto } :=
    e.read_command .dataAuto [] 0
  simp only [FarEnd.afterShape, Shape.frames, List.foldl_cons, List.foldl_nil, hmode, FarEnd.read_command,
    FarEnd.command]
  rw [FarEnd.addr_auto rfl, FarEnd.addrAuto, if_pos (by simpa using h)]
  rfl

theorem FarEnd.afterShape_scan (e : FarEnd) (b0 b1 b2 b3 : Byte) :
    e.afterShape (.scan b0 b1 b2 b3) = { e with dmode := .known .read } :=
  e.read_command .dataRead [] 4

/-- What `e` knows of the display and of every slot, `e'` knows something of as well (R188). -/
structure FarEnd.KnowsAsMuch (e e' : FarEnd) : Prop where
  disp : e.disp ≠ .unknown → e'.disp ≠ .unknown
  dram : ∀ a : Fin 16, e.dram[a] ≠ .unknown → e'.dram[a] ≠ .unknown

theorem FarEnd.KnowsAsMuch.refl (e : FarEnd) : e.KnowsAsMuch e := ⟨id, fun _ => id⟩

theorem FarEnd.KnowsAsMuch.trans {e e' e'' : FarEnd} (h : e.KnowsAsMuch e') (k : e'.KnowsAsMuch e'') :
    e.KnowsAsMuch e'' := ⟨k.disp ∘ h.disp, fun a => k.dram a ∘ h.dram a⟩

/-- No legal shape havocs. -/
theorem FarEnd.knowsAsMuch_afterShape (e : FarEnd) {x : Shape} (h : x.legal) : e.KnowsAsMuch (e.afterShape x) := by
  cases x with
  | command c =>
    obtain ⟨d, hd⟩ := e.afterShape_command h
    rw [hd]
    exact ⟨fun _ => nofun, fun _ => id⟩
  | fixed slot d =>
    rw [FarEnd.afterShape_fixed]
    refine ⟨id, fun a ha => ?_⟩
    by_cases hslot : slot.toNat = a.val
    · simp [hslot]
    · simpa [Vector.getElem_set, hslot] using ha
  | auto ds =>
    obtain ⟨m, -, hm, hlen⟩ := h
    rw [FarEnd.afterShape_auto e (by omega)]
    refine ⟨id, fun a ha => ?_⟩
    show (dramWrite e.dram 0 ds)[a.val] ≠ .unknown
    rw [dramWrite_getElem]
    split
    · nofun
    · exact ha
  | scan b0 b1 b2 b3 => exact ⟨id, fun _ => id⟩

/-- Shapes in a row are read shape by shape. -/
theorem Shape.emits_flatMap_pending (shapes : List Shape) (w : Wire) :
    (w.emits (shapes.flatMap Shape.events)).pending = w.pending ++ shapes.flatMap Shape.frames := by
  induction shapes generalizing w with
  | nil => simp
  | cons x shapes ih => simp [Wire.emits_append, ih, Shape.emits_pending]

theorem FarEnd.knowsAsMuch_frames {shapes : List Shape} (h : ∀ x ∈ shapes, x.legal) (e : FarEnd) :
    e.KnowsAsMuch ((shapes.flatMap Shape.frames).foldl FarEnd.read e) := by
  induction shapes generalizing e with
  | nil => exact .refl e
  | cons x shapes ih =>
    obtain ⟨hx, hshapes⟩ := List.forall_mem_cons.mp h
    rw [List.flatMap_cons, List.foldl_append]
    exact (e.knowsAsMuch_afterShape hx).trans (ih hshapes _)

/-! ### Writes: what a completed request does at a time -/

/-- Events join the wire. -/
def State.emits (s : State) (es : List Event) : State := { s with wire := s.wire.emits es }

@[simp] theorem State.emits_dmap (s : State) (es : List Event) : (s.emits es).dmap = s.dmap := rfl
@[simp] theorem State.emits_dig (s : State) (es : List Event) : (s.emits es).dig = s.dig := rfl
@[simp] theorem State.emits_ledm (s : State) (es : List Event) : (s.emits es).ledm = s.ledm := rfl

/-- One write: a display command, a shadow byte with the frames that send it (R63), a key scan, or a change of BRIGHT or of the responses, which emits nothing. -/
inductive State.Write : State → State → Prop
  | command (s : State) (c : Byte) (hc : (Shape.command c).legal) : Write s (s.emits (Shape.command c).events)
  | digit (s : State) (k : Index) (b : Byte) :
      Write s ((s.setDig k b).emits (Shape.fixed (segSlot s k) b).events)
  | led (s : State) (k : Index) (on : Bool) :
      Write s ((s.setLed k on).emits (Shape.fixed (ledSlot s k) (ledByte on)).events)
  | scan (s : State) (n : Nat) (b0 b1 b2 b3 : Byte) :
      Write s ({ s with draws := n }.emits (Shape.scan b0 b1 b2 b3).events)
  | respond (s : State) (v : Byte) : Write s (s.respond v)
  | setBright (s : State) (l : Level) : Write s { s with bright := l }

/-- A chain of writes. -/
abbrev State.Writes : State → State → Prop := Relation.ReflTransGen State.Write

/-- What every write keeps, a chain of writes keeps. -/
theorem State.Writes.keeps {P : State → Prop} (hwrite : ∀ s t, State.Write s t → P s → P t) {s t : State}
    (h : s.Writes t) (hs : P s) : P t := by
  induction h with
  | refl => exact hs
  | tail _ hlast ih => exact hwrite _ _ hlast ih

/-! ### Procedures that only write -/

/-- A procedure every completed run of which is a chain of writes. -/
def Writing {α : Type} (f : State → Sub α) : Prop := ∀ s a t, f s = .ok a t → s.Writes t

theorem Writing.ok {α : Type} (a : α) : Writing (Sub.ok a) := by
  intro s b t h
  cases h
  exact .refl

theorem Sub.bind_eq_ok {α β : Type} {x : Sub α} {f : α → State → Sub β} {b : β} {t : State}
    (h : x.bind f = .ok b t) : ∃ a u, x = .ok a u ∧ f a u = .ok b t := by
  cases x with
  | ok a u => exact ⟨a, u, rfl, h⟩
  | raise c u => cases h

theorem Writing.bind {α β : Type} {f : State → Sub α} {g : α → State → Sub β} (hf : Writing f)
    (hg : ∀ a, Writing (g a)) : Writing fun s => (f s).bind g := by
  intro s b t h
  obtain ⟨a, u, hu, ht⟩ := Sub.bind_eq_ok h
  exact (hf s a u hu).trans (hg a u b t ht)

theorem Writing.each {α : Type} {f : α → State → Sub Unit} (hf : ∀ x, Writing (f x)) (xs : List α) :
    Writing (Sub.each f xs) := by
  induction xs with
  | nil => exact .ok ()
  | cons x xs ih => exact (hf x).bind fun _ => ih

/-- A completed loop has completed the round of each element, with writes before and after it. -/
theorem Writing.each_round {α : Type} {f : α → State → Sub Unit} (hf : ∀ x, Writing (f x)) {xs : List α} {x : α}
    (hx : x ∈ xs) {s t : State} (h : Sub.each f xs s = .ok () t) :
    ∃ u v, s.Writes u ∧ f x u = .ok () v ∧ v.Writes t := by
  induction xs generalizing s with
  | nil => cases hx
  | cons y ys ih =>
    obtain ⟨_, u, hu, ht⟩ := Sub.bind_eq_ok h
    rcases List.mem_cons.mp hx with rfl | hy
    · exact ⟨s, u, .refl, hu, Writing.each hf ys u () t ht⟩
    · obtain ⟨v, w, hv, hround, hw⟩ := ih hy ht
      exact ⟨v, w, (hf y s () u hu).trans hv, hround, hw⟩

theorem guarded_eq_ok {α : Type} {check : State → Option FaultCode} {f : State → Sub α} {s t : State} {a : α}
    (h : guarded check f s = .ok a t) : check s = none ∧ f s = .ok a t := by
  cases hc : check s with
  | some c => simp [guarded_stop hc] at h
  | none => exact ⟨rfl, (guarded_pass hc f).symm.trans h⟩

theorem Writing.ite {f g : State → Sub Unit} (hf : Writing f) (hg : Writing g) (p : State → Prop) [DecidablePred p] :
    Writing fun s => if p s then f s else g s := by
  intro s a t h
  by_cases hp : p s
  · exact hf s a t (by simpa [hp] using h)
  · exact hg s a t (by simpa [hp] using h)

/-- A frame procedure that completes is done. -/
theorem framed_eq_ok {α : Type} {s t : State} {done : Sub α} {a : α} (h : framed s done = .ok a t) :
    done = .ok a t := by
  unfold framed at h
  split_ifs at h
  exact h

theorem fixedWrite_eq_ok {slot : Slot} {d : Byte} {s t : State} (h : fixedWrite slot d s = .ok () t) :
    t = s.emits (Shape.fixed slot d).events := by
  rw [fixedWrite_eq] at h
  cases framed_eq_ok h
  rfl

/-! ### The procedures of the sequencer (R171 to R189) -/

theorem writing_respond (v : State → Byte) : Writing fun s => .ok () (s.respond (v s)) := by
  intro s a t h
  cases h
  exact .single (.respond s (v s))

theorem onIndex_eq_ok {i : Byte} {body : Index → State → Sub Unit} {s t : State}
    (h : onIndex i body s = .ok () t) : ∃ k, body k s = .ok () t := by
  unfold onIndex at h
  split at h
  next k _ => exact ⟨k, h⟩
  next => cases h

theorem writing_onIndex {body : Index → State → Sub Unit} (hb : ∀ k, Writing (body k)) (i : Byte) :
    Writing (onIndex i body) := by
  intro s a t h
  obtain ⟨k, hk⟩ := onIndex_eq_ok h
  exact hb k s () t hk

theorem writing_sendCommand {c : Byte} (hc : (Shape.command c).legal) : Writing (sendCommand c) := by
  intro s a t h
  rw [sendCommand_eq] at h
  cases framed_eq_ok h
  exact .single (.command s c hc)

theorem writing_keyScan : Writing keyScan := by
  intro s a t h
  rw [keyScan_eq] at h
  cases framed_eq_ok h
  exact .single (.scan s (s.draws + 4) _ _ _ _)

theorem showDig_eq_ok {k : Index} {b : Byte} {s t : State} (h : showDig k b s = .ok () t) :
    t = (s.setDig k b).emits (Shape.fixed (segSlot s k) b).events := fixedWrite_eq_ok h

theorem writing_showDig (k : Index) (b : State → Byte) : Writing fun s => showDig k (b s) s := by
  intro s a t h
  cases showDig_eq_ok h
  exact .single (.digit s k (b s))

theorem writing_showLed (i : Nat) (on : Bool) : Writing (showLed i on) := by
  intro s a t h
  unfold showLed at h
  split at h
  · cases h
    exact .refl
  next k _ =>
    cases fixedWrite_eq_ok h
    exact .single (.led s k on)

theorem writing_showGlyph (d : Nat) (v : Byte) (raw : Bool) : Writing (showGlyph d v raw) := by
  intro s a t h
  unfold showGlyph at h
  split at h
  · cases h
    exact .refl
  next k _ => exact writing_showDig k (fun _ => _) s a t h

theorem writing_showDp (d : Nat) (on : Bool) : Writing (showDp d on) := by
  intro s a t h
  unfold showDp at h
  split at h
  · cases h
    exact .refl
  next k _ => exact writing_showDig k (fun _ => _) s a t h

theorem writing_showDigits (L : List Nat) (d : Nat) : Writing (showDigits d L) := by
  induction L generalizing d with
  | nil => exact .ok ()
  | cons v vs ih => exact (writing_showGlyph d _ false).bind fun _ => ih (d + 1)

theorem writing_showNumber (d n : Nat) (digits : List Nat) : Writing (showNumber d n digits) :=
  .ite (writing_showDigits digits d) (.ok ()) _

theorem writing_clearDigit (i : Nat) : Writing (clearDigit i) :=
  (writing_showLed i false).bind fun _ => (writing_showGlyph i _ true).bind fun _ => writing_showDp i false

theorem writing_clearAll : Writing clearAll :=
  fun s => Writing.each writing_clearDigit (List.range s.numDigits.val) s

theorem legal_dispOn (b : Level) : (Shape.command (WireCmd.dispOn b).byte).legal := by
  refine .inr ?_
  revert b
  decide

theorem writing_brightness (level : Byte) : Writing (brightness level) := fun s a t h =>
  .head (.setBright s _) (writing_sendCommand (legal_dispOn _) { s with bright := level.setWidth 3 } a t h)

/-! ### Requests that complete -/

/-- A request that completes has run its pseudocode to the end. -/
theorem perform_completes {i : Instr} {s t : State} {body : State → Sub Unit} (h : perform i s body = .next t)
    (ht : t.fault = none) : body s = .ok () t := by
  obtain ⟨r, -, hr⟩ | ⟨-, u, hu, hr⟩ | ⟨-, c, u, -, hr⟩ := perform_cases i s body
  · cases hr.symm.trans h
  · cases hr.symm.trans h
    exact hu
  · cases hr.symm.trans h
    cases ht

theorem perform_responds {i : Instr} {s t : State} (v : State → Byte)
    (h : perform i s (fun s => .ok () (s.respond (v s))) = .next t) (ht : t.fault = none) : ∃ v, t = s.respond v := by
  cases perform_completes h ht
  exact ⟨_, rfl⟩

/-- A completed request behind the INIT check has INIT, and has made its writes. -/
theorem Writing.sequenced {body : State → Sub Unit} (hb : Writing body) {i : Instr} {s t : State}
    (h : sequenced i s body = .next t) (ht : t.fault = none) : s.init = true ∧ s.Writes t := by
  obtain ⟨hinit, hbody⟩ := guarded_eq_ok (perform_completes h ht)
  exact ⟨by simpa [checkInit] using hinit, hb s () t hbody⟩

/-- A completed request that neither bypasses the shadow, nor configures, nor is TEST, only responds, or is a chain of writes behind the INIT check. -/
theorem exec_responds_or_writes {i : Instr} (hbypass : bypasses i = false) (hbegin : isBegin i = false)
    (htest : ∀ enable, i ≠ .test enable) {s t : State} (h : exec i s = .next t) (ht : t.fault = none) :
    (∃ v, t = s.respond v) ∨ (s.init = true ∧ s.Writes t) := by
  cases i with
  | sEncode idx => exact .inl (perform_responds (i := .sEncode idx) (fun _ => segEncode idx) h ht)
  | sRawenc bits => exact .inl (perform_responds (i := .sRawenc bits) (fun _ => rawEncode bits) h ht)
  | rGetdig i =>
    obtain ⟨k, hk⟩ := onIndex_eq_ok (perform_completes h ht)
    cases hk
    exact .inl ⟨_, rfl⟩
  | rGetledm => exact .inl (perform_responds (i := .rGetledm) State.ledm h ht)
  | rPhys l =>
    exact .inr ((writing_onIndex (fun k => writing_respond fun s => (s.dmap[k]).setWidth 8) l).sequenced
      (i := .rPhys l) h ht)
  | displayOff => exact .inr ((writing_sendCommand (.inl rfl)).sequenced h ht)
  | clear => exact .inr (writing_clearAll.sequenced h ht)
  | setBrightness level => exact .inr ((writing_brightness level).sequenced h ht)
  | test enable => exact absurd rfl (htest enable)
  | showByteBinary v lsbFirst =>
    exact .inr ((Writing.ite (.ok ()) (.each (fun k => writing_showGlyph k _ false) _) _).sequenced h ht)
  | showChar d v raw => exact .inr ((writing_showGlyph d.toNat v raw).sequenced h ht)
  | showInt8 d v decimal => exact .inr ((writing_showNumber d.toNat 2 _).sequenced h ht)
  | showInt12 d v decimal => exact .inr ((writing_showNumber d.toNat 3 _).sequenced h ht)
  | showInt16 d v decimal => exact .inr ((writing_showNumber d.toNat 4 _).sequenced h ht)
  | showLedsBinary v lsbFirst =>
    exact .inr ((Writing.ite (.ok ()) (.each (fun k => writing_showLed k _) _) _).sequenced h ht)
  | setLed i on => exact .inr ((writing_showLed i.toNat on).sequenced h ht)
  | setDp d on => exact .inr ((writing_showDp d.toNat on).sequenced h ht)
  | readButtons =>
    exact .inr ((Writing.ite (writing_respond _) (writing_keyScan.bind fun b => writing_respond _) _).sequenced h ht)
  | tStart | tStop | tWrbyte _ | tRdbyte | tWrcmd _ | tDioIn | tDioOut => cases hbypass
  | rSetdig _ _ | rSetdp _ _ | rSetled _ _ => cases hbypass
  | wDataAuto _ | wDataRead _ | wDataFixed _ | wDispOff _ | wDispOn _ _ | wAddr _ _ => cases hbypass
  | beginId _ _ _ _ | beginMap _ _ _ _ _ => cases hbegin

/-- A completed BEGIN or BEGIN_MAP has configured a permutation, driven the line, cleared, and set the brightness (R171, R172). -/
theorem exec_begin_completes {i : Instr} (hi : isBegin i = true) {s t : State} (h : exec i s = .next t)
    (ht : t.fault = none) :
    ∃ nb nl nd br dmap u, Permutation dmap ∧ clearAll ((configured nb nl nd dmap s).emit .dirOut) = .ok () u ∧
      brightness br u = .ok () t := by
  cases i with
  | beginId nb nl nd br =>
    obtain ⟨_, u, hclear, hbright⟩ := Sub.bind_eq_ok (perform_completes h ht)
    exact ⟨nb, nl, nd, br, identityMap, u, permutation_identityMap, hclear, hbright⟩
  | beginMap nb nl nd br map =>
    simp only [exec, execBeginMap] at h
    have hbody := perform_completes h ht
    cases hmap : suppliedMap map with
    | none => simp [hmap] at hbody
    | some dmap =>
      simp only [hmap] at hbody
      obtain ⟨_, u, hclear, hbright⟩ := Sub.bind_eq_ok hbody
      exact ⟨nb, nl, nd, br, dmap, u, permutation_of_suppliedMap hmap, hclear, hbright⟩
  | _ => cases hi

/-- A completed TEST has INIT and emits one auto-increment write (R177). -/
theorem exec_test_completes {enable : Bool} {s t : State} (h : exec (.test enable) s = .next t) (ht : t.fault = none) :
    s.init = true ∧ t = s.emits (Shape.auto (testBytes enable s)).events := by
  obtain ⟨hinit, hbody⟩ := guarded_eq_ok (perform_completes h ht)
  rw [autoWrite_eq] at hbody
  cases framed_eq_ok hbody
  exact ⟨by simpa [checkInit] using hinit, rfl⟩

/-! ### The shapes emitted (R188) -/

/-- `t`'s wire is that of `s` after legal shapes. -/
def State.EmitsShapes (s t : State) : Prop :=
  ∃ shapes : List Shape, (∀ x ∈ shapes, x.legal) ∧ t.wire = s.wire.emits (shapes.flatMap Shape.events)

theorem State.EmitsShapes.nothing {s t : State} (h : t.wire = s.wire) : s.EmitsShapes t := ⟨[], by simp, by simpa⟩

theorem State.EmitsShapes.one {s t : State} {x : Shape} (hx : x.legal) (h : t.wire = s.wire.emits x.events) :
    s.EmitsShapes t := ⟨[x], by simpa, by simpa⟩

theorem State.EmitsShapes.trans {s t u : State} (h : s.EmitsShapes t) (k : t.EmitsShapes u) : s.EmitsShapes u := by
  obtain ⟨xs, hxs, ht⟩ := h
  obtain ⟨ys, hys, hu⟩ := k
  refine ⟨xs ++ ys, fun x hx => (List.mem_append.mp hx).elim (hxs x) (hys x), ?_⟩
  rw [hu, ht, List.flatMap_append, Wire.emits_append]

theorem State.Write.emitsShapes {s t : State} (h : State.Write s t) : s.EmitsShapes t := by
  cases h with
  | command c hc => exact .one hc rfl
  | digit k b => exact .one (x := .fixed _ _) trivial rfl
  | led k on => exact .one (x := .fixed _ _) trivial rfl
  | scan n b0 b1 b2 b3 => exact .one (x := .scan _ _ _ _) trivial rfl
  | respond v => exact .nothing rfl
  | setBright l => exact .nothing rfl

theorem State.Writes.emitsShapes {s t : State} (h : s.Writes t) : s.EmitsShapes t :=
  h.keeps (P := s.EmitsShapes) (fun _ _ hwrite hs => hs.trans hwrite.emitsShapes) (.nothing rfl)

/-- The positions TEST writes: those below M (R177). -/
def testPositions (s : State) : List Index := (List.finRange 8).take (max s.numDigits.val s.numLeds.val)

theorem testPositions_length (s : State) : (testPositions s).length = max s.numDigits.val s.numLeds.val := by
  have hdigits := s.numDigits.isLt
  have hleds := s.numLeds.isLt
  simp [testPositions]
  omega

/-- The digit byte TEST writes to position p (R177). -/
def testDigit (enable : Bool) (s : State) (p : Index) : Byte :=
  if enable then 0xFF#8 else s.dig[inverseMap s.dmap p]

/-- The LED byte TEST writes to position p (R177). -/
def testLed (enable : Bool) (s : State) (p : Index) : Byte :=
  if enable then ledByte true else ledByte (s.ledm.getLsbD (inverseMap s.dmap p).val)

theorem testBytes_eq (enable : Bool) (s : State) :
    testBytes enable s = (testPositions s).flatMap fun p => [testDigit enable s p, testLed enable s p] := by
  cases enable <;> rfl

theorem length_flatMap_pair {α β : Type} (f g : α → β) (xs : List α) :
    (xs.flatMap fun x => [f x, g x]).length = 2 * xs.length := by
  simp [List.length_flatMap, Nat.mul_comm]

theorem testBytes_length (enable : Bool) (s : State) :
    (testBytes enable s).length = 2 * max s.numDigits.val s.numLeds.val := by
  rw [testBytes_eq, length_flatMap_pair, testPositions_length]

theorem legal_testBytes (enable : Bool) {s : State} (h : 1 ≤ s.numDigits.val) :
    (Shape.auto (testBytes enable s)).legal := by
  have hdigits := s.numDigits.isLt
  have hleds := s.numLeds.isLt
  exact ⟨max s.numDigits.val s.numLeds.val, by omega, by omega, testBytes_length enable s⟩

theorem isBegin_eq_false_of_isDisplay {i : Instr} (hi : isDisplay i = true) : isBegin i = false := by
  cases hbegin : isBegin i with
  | false => rfl
  | true =>
    cases i with
    | beginId _ _ _ _ | beginMap _ _ _ _ _ => cases hi
    | _ => cases hbegin

/-- Of the requests R170 speaks of, TEST alone may bypass the shadow. -/
theorem bypasses_eq_false_of_isDisplay {i : Instr} (hi : isDisplay i = true) (htest : ∀ enable, i ≠ .test enable) :
    bypasses i = false := by
  cases i with
  | test enable => exact absurd rfl (htest enable)
  | displayOff | clear | setBrightness _ => rfl
  | showByteBinary _ _ | showChar _ _ _ | showInt8 _ _ _ | showInt12 _ _ _ | showInt16 _ _ _ => rfl
  | showLedsBinary _ _ | setLed _ _ | setDp _ _ | readButtons => rfl
  | _ => cases hi

theorem exec_begin_emitsShapes {i : Instr} (hi : isBegin i = true) {s t : State} (h : exec i s = .next t)
    (ht : t.fault = none) : (s.emit .dirOut).EmitsShapes t := by
  obtain ⟨nb, nl, nd, br, dmap, u, -, hclear, hbright⟩ := exec_begin_completes hi h ht
  have hwrites : State.Writes _ t := (writing_clearAll _ _ _ hclear).trans (writing_brightness br _ _ _ hbright)
  exact State.EmitsShapes.trans (.nothing rfl) hwrites.emitsShapes

theorem exec_display_emitsShapes {i : Instr} (hi : isDisplay i = true) {s t : State} (hdigit : 1 ≤ s.numDigits.val)
    (h : exec i s = .next t) (ht : t.fault = none) : s.EmitsShapes t := by
  by_cases htest : ∃ enable, i = .test enable
  · obtain ⟨enable, rfl⟩ := htest
    obtain ⟨-, rfl⟩ := exec_test_completes h ht
    exact .one (legal_testBytes enable hdigit) rfl
  · have htest' := not_exists.mp htest
    rcases exec_responds_or_writes (bypasses_eq_false_of_isDisplay hi htest') (isBegin_eq_false_of_isDisplay hi) htest'
      h ht with ⟨v, rfl⟩ | ⟨-, hwrites⟩
    · exact .nothing rfl
    · exact hwrites.emitsShapes

/-- Settles O48: the writes of a completed request emit legal shapes, TEST's bytes are two for each of M positions, and no legal shape havocs. -/
theorem sequencerEmitsOnlyListedShapes : Obligations.SequencerEmitsOnlyListedShapes := by
  refine ⟨fun i s t _ hi h ht => ?_, fun shapes w e hlegal hpending => ?_⟩
  · rcases hi with hbegin | ⟨hdisplay, hdigit⟩
    · obtain ⟨shapes, hlegal, hwire⟩ := exec_begin_emitsShapes hbegin h ht
      exact ⟨shapes, hlegal, by simpa [hbegin] using hwire⟩
    · obtain ⟨shapes, hlegal, hwire⟩ := exec_display_emitsShapes hdisplay hdigit h ht
      exact ⟨shapes, hlegal, by simpa [isBegin_eq_false_of_isDisplay hdisplay] using hwire⟩
  · have hknows := FarEnd.knowsAsMuch_frames hlegal e
    rw [Shape.emits_flatMap_pending, hpending, List.nil_append]
    exact ⟨hknows.disp, hknows.dram⟩

/-! ### The mirror, slot by slot (R67) -/

/-- The far end, once it has read every frame, holds byte b in slot a. -/
def State.Holds (s : State) (a : Nat) (b : Byte) : Prop := s.settled.farEnd.dram[a]? = some (.known b)

/-- The far end holds the shadow's byte of digit l. -/
def State.MirrorsDigit (s : State) (l : Index) : Prop := s.Holds (2 * (s.dmap[l]).toNat) s.dig[l]

/-- The far end holds the byte of LED l. -/
def State.MirrorsLed (s : State) (l : Index) : Prop :=
  s.Holds (2 * (s.dmap[l]).toNat + 1) (ledByte (s.ledm.getLsbD l.val))

theorem mirrored_iff (s : State) :
    s.Mirrored ↔ ∀ l : Index, (l.val < s.numDigits.val → s.MirrorsDigit l) ∧
      (l.val < s.numDigits.val → l.val < s.numLeds.val → s.MirrorsLed l) := Iff.rfl

/-- The far end reads a shape after the frames that wait. -/
theorem State.settled_emits_farEnd (s : State) (x : Shape) :
    (s.emits x.events).settled.farEnd = s.settled.farEnd.afterShape x := by
  simp [State.emits, Shape.emits_pending, FarEnd.afterShape]

theorem State.holds_command {s : State} {c : Byte} (hc : (Shape.command c).legal) {a : Nat} {b : Byte}
    (h : s.Holds a b) : (s.emits (Shape.command c).events).Holds a b := by
  obtain ⟨d, hd⟩ := s.settled.farEnd.afterShape_command hc
  rw [State.Holds, State.settled_emits_farEnd, hd]
  exact h

theorem State.holds_scan {s : State} (b0 b1 b2 b3 : Byte) {a : Nat} {b : Byte} (h : s.Holds a b) :
    (s.emits (Shape.scan b0 b1 b2 b3).events).Holds a b := by
  rw [State.Holds, State.settled_emits_farEnd, FarEnd.afterShape_scan]
  exact h

theorem State.holds_fixed_self (s : State) (slot : Slot) (b : Byte) :
    (s.emits (Shape.fixed slot b).events).Holds slot.toNat b := by
  rw [State.Holds, State.settled_emits_farEnd, FarEnd.afterShape_fixed]
  exact Vector.getElem?_set_self slot.isLt

theorem State.holds_fixed_of_ne {s : State} {slot : Slot} (d : Byte) {a : Nat} {b : Byte} (hne : slot.toNat ≠ a)
    (h : s.Holds a b) : (s.emits (Shape.fixed slot d).events).Holds a b := by
  rw [State.Holds, State.settled_emits_farEnd, FarEnd.afterShape_fixed]
  exact (Vector.getElem?_set_ne slot.isLt hne).trans h

/-- After an auto-increment write slot a holds byte a of its data, and past them what it held. -/
theorem State.holds_auto {s : State} {ds : List Byte} (hlen : ds.length ≤ 16) {a : Nat} {b : Byte}
    (hin : ∀ d, ds[a]? = some d → d = b) (hout : ds.length ≤ a → s.Holds a b) (ha : a < 16) :
    (s.emits (Shape.auto ds).events).Holds a b := by
  rw [State.Holds, State.settled_emits_farEnd, FarEnd.afterShape_auto _ hlen,
    Vector.getElem?_eq_getElem ha, dramWrite_getElem]
  by_cases h : a < ds.length
  · simpa [h] using hin ds[a] (List.getElem?_eq_getElem h)
  · have hold := hout (by omega)
    rw [State.Holds, Vector.getElem?_eq_getElem ha] at hold
    simpa [h] using hold

/-! ### Slots and LED bits (R154, R158) -/

theorem segSlot_toNat (s : State) (l : Index) : (segSlot s l).toNat = 2 * (s.dmap[l]).toNat := by
  have hpos := (s.dmap[l]).isLt
  simp only [segSlot, BitVec.toNat_ofNat]
  omega

theorem ledSlot_toNat (s : State) (l : Index) : (ledSlot s l).toNat = 2 * (s.dmap[l]).toNat + 1 := by
  have hpos := (s.dmap[l]).isLt
  simp only [ledSlot, BitVec.toNat_ofNat]
  omega

/-- A permutation puts different digits at different positions. -/
theorem Permutation.toNat_ne {dmap : Vector Position 8} (hmap : Permutation dmap) {k l : Index} (hne : k ≠ l) :
    (dmap[k]).toNat ≠ (dmap[l]).toNat :=
  fun heq => hne (hmap k l (BitVec.eq_of_toNat_eq heq))

theorem setBit_getLsbD_self (m : Byte) (i : Index) (on : Bool) : (setBit m i on).getLsbD i.val = on := by
  cases on <;> simp [setBit]

theorem setBit_getLsbD_of_ne (m : Byte) {i k : Index} (hne : k ≠ i) (on : Bool) :
    (setBit m i on).getLsbD k.val = m.getLsbD k.val := by
  have hmask : (0x01#8 <<< i.val).getLsbD k.val = false := by
    have hval := Fin.val_ne_of_ne hne
    simp only [BitVec.getLsbD_shiftLeft, BitVec.getLsbD_one, Bool.and_eq_false_iff, decide_eq_false_iff_not,
      Bool.not_eq_false', decide_eq_true_eq]
    omega
  cases on with
  | true => simp only [setBit, if_true, BitVec.getLsbD_or, hmask, Bool.or_false]
  | false => simp [setBit, -BitVec.getLsbD_eq_getElem, hmask]

/-! ### Writes keep the mirror, and make it (R63, R67) -/

theorem State.mirrorsDigit_digit (s : State) (k : Index) (b : Byte) :
    ((s.setDig k b).emits (Shape.fixed (segSlot s k) b).events).MirrorsDigit k := by
  have hheld := (s.setDig k b).holds_fixed_self (segSlot s k) b
  rw [segSlot_toNat] at hheld
  have hbyte : (s.setDig k b).dig[k] = b := Vector.getElem_set_self k.isLt
  rw [State.MirrorsDigit, State.emits_dig, State.emits_dmap, hbyte]
  exact hheld

theorem State.mirrorsLed_led (s : State) (k : Index) (on : Bool) :
    ((s.setLed k on).emits (Shape.fixed (ledSlot s k) (ledByte on)).events).MirrorsLed k := by
  have hheld := (s.setLed k on).holds_fixed_self (ledSlot s k) (ledByte on)
  rw [ledSlot_toNat] at hheld
  rw [State.MirrorsLed, State.emits_ledm, State.setLed_ledm, setBit_getLsbD_self]
  exact hheld

/-- A digit is written with its byte; another digit, and every LED, has another slot. -/
theorem State.Write.keeps_mirrorsDigit {s t : State} (h : State.Write s t) (hmap : Permutation s.dmap) {l : Index}
    (hs : s.MirrorsDigit l) : t.MirrorsDigit l := by
  cases h with
  | command c hc => exact State.holds_command hc hs
  | digit k b =>
    by_cases hkl : k = l
    · subst hkl
      exact s.mirrorsDigit_digit k b
    · have hslot : (segSlot s k).toNat ≠ 2 * (s.dmap[l]).toNat := by
        have hpos := hmap.toNat_ne hkl
        rw [segSlot_toNat]
        omega
      have hbyte : (s.setDig k b).dig[l] = s.dig[l] := Vector.getElem_set_ne k.isLt l.isLt (Fin.val_ne_of_ne hkl)
      rw [State.MirrorsDigit, State.emits_dig, State.emits_dmap, hbyte]
      exact State.holds_fixed_of_ne (s := s.setDig k b) b hslot hs
  | led k on =>
    have hslot : (ledSlot s k).toNat ≠ 2 * (s.dmap[l]).toNat := by
      rw [ledSlot_toNat]
      omega
    exact State.holds_fixed_of_ne (s := s.setLed k on) _ hslot hs
  | scan n b0 b1 b2 b3 => exact State.holds_scan (s := { s with draws := n }) b0 b1 b2 b3 hs
  | respond v => exact hs
  | setBright l => exact hs

/-- An LED is written with its bit; another LED, and every digit, has another slot. -/
theorem State.Write.keeps_mirrorsLed {s t : State} (h : State.Write s t) (hmap : Permutation s.dmap) {l : Index}
    (hs : s.MirrorsLed l) : t.MirrorsLed l := by
  cases h with
  | command c hc => exact State.holds_command hc hs
  | digit k b =>
    have hslot : (segSlot s k).toNat ≠ 2 * (s.dmap[l]).toNat + 1 := by
      rw [segSlot_toNat]
      omega
    exact State.holds_fixed_of_ne (s := s.setDig k b) _ hslot hs
  | led k on =>
    by_cases hkl : k = l
    · subst hkl
      exact s.mirrorsLed_led k on
    · have hslot : (ledSlot s k).toNat ≠ 2 * (s.dmap[l]).toNat + 1 := by
        have hpos := hmap.toNat_ne hkl
        rw [ledSlot_toNat]
        omega
      rw [State.MirrorsLed, State.emits_ledm, State.emits_dmap, State.setLed_ledm,
        setBit_getLsbD_of_ne s.ledm (Ne.symm hkl) on]
      exact State.holds_fixed_of_ne (s := s.setLed k on) _ hslot hs
  | scan n b0 b1 b2 b3 => exact State.holds_scan (s := { s with draws := n }) b0 b1 b2 b3 hs
  | respond v => exact hs
  | setBright l => exact hs

/-- No write touches the configuration. -/
theorem State.Write.keeps_config {s t : State} (h : State.Write s t) :
    t.dmap = s.dmap ∧ t.numDigits = s.numDigits ∧ t.numLeds = s.numLeds := by
  cases h <;> exact ⟨rfl, rfl, rfl⟩

theorem State.Writes.keeps_config {s t : State} (h : s.Writes t) :
    t.dmap = s.dmap ∧ t.numDigits = s.numDigits ∧ t.numLeds = s.numLeds := by
  refine h.keeps (P := fun u => u.dmap = s.dmap ∧ u.numDigits = s.numDigits ∧ u.numLeds = s.numLeds) ?_
    ⟨rfl, rfl, rfl⟩
  intro u v hwrite hu
  obtain ⟨hdmap, hdigits, hleds⟩ := hwrite.keeps_config
  rwa [hdmap, hdigits, hleds]

/-- What a write keeps under a permutation, a chain of writes keeps under one. -/
theorem State.Writes.keeps_of_permutation {P : State → Prop}
    (hwrite : ∀ s t, State.Write s t → Permutation s.dmap → P s → P t) {s t : State} (h : s.Writes t)
    (hmap : Permutation s.dmap) (hs : P s) : P t := by
  refine (h.keeps (P := fun u => Permutation u.dmap ∧ P u) (fun u v huv hu => ?_) ⟨hmap, hs⟩).2
  obtain ⟨hdmap, -, -⟩ := huv.keeps_config
  exact ⟨hdmap ▸ hu.1, hwrite u v huv hu.1 hu.2⟩

theorem State.Writes.keeps_mirrorsDigit {s t : State} (h : s.Writes t) (hmap : Permutation s.dmap) {l : Index}
    (hs : s.MirrorsDigit l) : t.MirrorsDigit l :=
  h.keeps_of_permutation (fun _ _ hwrite hperm => hwrite.keeps_mirrorsDigit hperm) hmap hs

theorem State.Writes.keeps_mirrorsLed {s t : State} (h : s.Writes t) (hmap : Permutation s.dmap) {l : Index}
    (hs : s.MirrorsLed l) : t.MirrorsLed l :=
  h.keeps_of_permutation (fun _ _ hwrite hperm => hwrite.keeps_mirrorsLed hperm) hmap hs

theorem State.Writes.keeps_mirrored {s t : State} (h : s.Writes t) (hmap : Permutation s.dmap) (hs : s.Mirrored) :
    t.Mirrored := by
  obtain ⟨-, hdigits, hleds⟩ := h.keeps_config
  refine (mirrored_iff t).mpr fun l => ?_
  obtain ⟨hdigit, hled⟩ := (mirrored_iff s).mp hs l
  rw [hdigits, hleds]
  exact ⟨fun hl => h.keeps_mirrorsDigit hmap (hdigit hl), fun hl hl' => h.keeps_mirrorsLed hmap (hled hl hl')⟩

/-! ### BEGIN makes the mirror (R171, R175, R263) -/

theorem showLed_mirrors {k : Index} {on : Bool} {s t : State} (hk : k.val < s.numLeds.val)
    (h : showLed k.val on s = .ok () t) : t.MirrorsLed k := by
  simp only [showLed, ledIndex_some hk] at h
  cases fixedWrite_eq_ok h
  exact s.mirrorsLed_led k on

theorem showDp_mirrors {k : Index} {on : Bool} {s t : State} (hk : k.val < s.numDigits.val)
    (h : showDp k.val on s = .ok () t) : t.MirrorsDigit k := by
  simp only [showDp, digitIndex_some hk] at h
  cases showDig_eq_ok h
  exact s.mirrorsDigit_digit k _

/-- A completed round of CLEAR mirrors its digit, and its LED if there is one. -/
theorem clearDigit_mirrors {k : Index} {s t : State} (hmap : Permutation s.dmap) (hk : k.val < s.numDigits.val)
    (h : clearDigit k.val s = .ok () t) : t.MirrorsDigit k ∧ (k.val < s.numLeds.val → t.MirrorsLed k) := by
  obtain ⟨_, u, hled, hrest⟩ := Sub.bind_eq_ok h
  obtain ⟨_, v, hglyph, hdp⟩ := Sub.bind_eq_ok hrest
  have hsu : s.Writes u := writing_showLed k.val false s () u hled
  have huv : u.Writes v := writing_showGlyph k.val _ true u () v hglyph
  have hvt : v.Writes t := writing_showDp k.val false v () t hdp
  have hut : u.Writes t := huv.trans hvt
  have hsv : s.Writes v := hsu.trans huv
  constructor
  · exact showDp_mirrors (hsv.keeps_config.2.1 ▸ hk) hdp
  · exact fun hl => hut.keeps_mirrorsLed (hsu.keeps_config.1 ▸ hmap) (showLed_mirrors hl hled)

/-- A completed CLEAR mirrors every configured digit, and every LED below both counts. -/
theorem clearAll_mirrors {s t : State} (hmap : Permutation s.dmap) (h : clearAll s = .ok () t) : t.Mirrored := by
  have hst : s.Writes t := writing_clearAll s () t h
  obtain ⟨-, hdigits, hleds⟩ := hst.keeps_config
  have hround : ∀ l : Index, l.val < s.numDigits.val →
      t.MirrorsDigit l ∧ (l.val < s.numLeds.val → t.MirrorsLed l) := by
    intro l hl
    obtain ⟨u, v, hsu, huv, hvt⟩ := Writing.each_round writing_clearDigit (List.mem_range.mpr hl) h
    obtain ⟨hdmapu, hdigitsu, hledsu⟩ := hsu.keeps_config
    have hmapu : Permutation u.dmap := hdmapu ▸ hmap
    have hmapv : Permutation v.dmap := (writing_clearDigit l.val u () v huv).keeps_config.1 ▸ hmapu
    obtain ⟨hdigit, hled⟩ := clearDigit_mirrors hmapu (hdigitsu ▸ hl) huv
    exact ⟨hvt.keeps_mirrorsDigit hmapv hdigit, fun hl' => hvt.keeps_mirrorsLed hmapv (hled (hledsu ▸ hl'))⟩
  refine (mirrored_iff t).mpr fun l => ?_
  rw [hdigits, hleds]
  exact ⟨fun hl => (hround l hl).1, fun hl => (hround l hl).2⟩

theorem exec_begin_mirrors {i : Instr} (hi : isBegin i = true) {s t : State} (h : exec i s = .next t)
    (ht : t.fault = none) : t.Mirrored := by
  obtain ⟨nb, nl, nd, br, dmap, u, hmap, hclear, hbright⟩ := exec_begin_completes hi h ht
  have hu : u.Mirrored := clearAll_mirrors hmap hclear
  have hmapu : Permutation u.dmap := (writing_clearAll _ _ _ hclear).keeps_config.1 ▸ hmap
  exact (writing_brightness br u () t hbright).keeps_mirrored hmapu hu

/-! ### TEST 0 keeps the mirror (R177) -/

/-- Of pairs in a row the first components stand in the even places, the second ones in the odd places. -/
theorem getElem?_flatMap_pair {α β : Type} (f g : α → β) (xs : List α) (n : Nat) :
    (xs.flatMap fun x => [f x, g x])[2 * n]? = xs[n]?.map f ∧
    (xs.flatMap fun x => [f x, g x])[2 * n + 1]? = xs[n]?.map g := by
  induction xs generalizing n with
  | nil => simp
  | cons x xs ih =>
    cases n with
    | zero => simp
    | succ n => simpa [Nat.mul_add] using ih n

/-- The position at p, if M is above it. -/
theorem testPositions_getElem? (s : State) {p q : Index} (h : (testPositions s)[p.val]? = some q) : q = p := by
  simp only [testPositions, List.getElem?_take] at h
  split at h
  · obtain ⟨_, hq⟩ := List.getElem?_eq_some_iff.mp h
    exact hq.symm.trans (List.getElem_finRange _)
  · cases h

theorem inverseMap_self {dmap : Vector Position 8} (hmap : Permutation dmap) {l p : Index}
    (hp : (dmap[l]).toNat = p.val) : inverseMap dmap p = l := by
  cases hfind : (List.finRange 8).find? fun l => (dmap[l]).toNat == p.val with
  | none => exact absurd (by simpa using hp) (List.find?_eq_none.mp hfind l (List.mem_finRange l))
  | some k =>
    have hk : (dmap[k]).toNat = p.val := by simpa using List.find?_some hfind
    rw [inverseMap, hfind]
    exact hmap k l (BitVec.eq_of_toNat_eq (hk.trans hp.symm))

/-- TEST 0 writes to a position below M the bytes of the digit and the LED that are shown there. -/
theorem testBytes_restore {s : State} (hmap : Permutation s.dmap) (l : Index) :
    (∀ d, (testBytes false s)[2 * (s.dmap[l]).toNat]? = some d → d = s.dig[l]) ∧
    (∀ d, (testBytes false s)[2 * (s.dmap[l]).toNat + 1]? = some d → d = ledByte (s.ledm.getLsbD l.val)) := by
  obtain ⟨p, hp⟩ : ∃ p : Index, (s.dmap[l]).toNat = p.val := ⟨⟨_, (s.dmap[l]).isLt⟩, rfl⟩
  obtain ⟨heven, hodd⟩ := getElem?_flatMap_pair (testDigit false s) (testLed false s) (testPositions s) p.val
  rw [testBytes_eq, hp, heven, hodd]
  constructor
  · intro d hd
    obtain ⟨q, hq, rfl⟩ := Option.map_eq_some_iff.mp hd
    simp [testPositions_getElem? s hq, testDigit, inverseMap_self hmap hp]
  · intro d hd
    obtain ⟨q, hq, rfl⟩ := Option.map_eq_some_iff.mp hd
    simp [testPositions_getElem? s hq, testLed, inverseMap_self hmap hp]

theorem mirrored_test_false {s : State} (hmap : Permutation s.dmap) (hs : s.Mirrored) :
    (s.emits (Shape.auto (testBytes false s)).events).Mirrored := by
  have hdigits := s.numDigits.isLt
  have hleds := s.numLeds.isLt
  have hlen : (testBytes false s).length ≤ 16 := by
    rw [testBytes_length]
    omega
  refine (mirrored_iff _).mpr fun l => ?_
  obtain ⟨hdigit, hled⟩ := (mirrored_iff s).mp hs l
  obtain ⟨hdig, hledm⟩ := testBytes_restore hmap l
  have hpos := (s.dmap[l]).isLt
  exact ⟨fun hl => State.holds_auto hlen hdig (fun _ => hdigit hl) (by omega),
    fun hl hl' => State.holds_auto hlen hledm (fun _ => hled hl hl') (by omega)⟩

/-- Settles O52: BEGIN's CLEAR makes the mirror; then every request that does not bypass the shadow only responds, restores from the shadow (TEST 0), or writes shadow and far end together. -/
theorem shadowStaysAWriteThroughMirror : Obligations.ShadowStaysAWriteThroughMirror := by
  intro i s t h ht
  refine ⟨fun hbegin _ => exec_begin_mirrors hbegin h ht, fun hconfig _ hbypass hs => ?_⟩
  obtain ⟨-, hconfigured⟩ := hconfig
  cases hbegin : isBegin i with
  | true => exact exec_begin_mirrors hbegin h ht
  | false =>
    by_cases htest : ∃ enable, i = .test enable
    · obtain ⟨enable, rfl⟩ := htest
      obtain ⟨hinit, rfl⟩ := exec_test_completes h ht
      cases enable with
      | true => cases hbypass
      | false => exact mirrored_test_false (hconfigured hinit).2 hs
    · rcases exec_responds_or_writes hbypass hbegin (not_exists.mp htest) h ht with ⟨v, rfl⟩ | ⟨hinit, hwrites⟩
      · exact hs
      · exact hwrites.keeps_mirrored (hconfigured hinit).2 hs

end Sys2Proof.Machine
end

section
/-! Proofs of the encoding's statements (O1 to O5). The idea is one relation, `Reading`, which lists what can come of the bytes after an opcode byte. The opcode map of R93 is read once, row by row through its operand formats (`reads_decodeOpcode`); what the decoder accepts (O2) and what it waits for (O4) is then checked against the four readings alone. -/

namespace Sys2Proof.Machine

/-! ### Operand kinds (R92) -/

@[simp] theorem boolOperand_boolByte (f : Bool) : boolOperand (boolByte f) = some f := by cases f <;> rfl

theorem eq_boolByte_of_boolOperand {x : Byte} {f : Bool} (h : boolOperand x = some f) : x = boolByte f := by
  unfold boolOperand at h
  split_ifs at h with h0 h1 <;> cases h
  · exact h0
  · exact h1

theorem boolOperand_eq_none {x : Byte} (h0 : x ≠ 0x00#8) (h1 : x ≠ 0x01#8) : boolOperand x = none := by
  simp [boolOperand, h0, h1]

@[simp] theorem u16Operand_bytes (v : Half) : u16Operand (lowByte v) (highByte v) = v := by
  apply BitVec.eq_of_toNat_eq
  simp only [u16Operand, lowByte, highByte, BitVec.toNat_ofNat, BitVec.toNat_setWidth, BitVec.toNat_ushiftRight,
    Nat.shiftRight_eq_div_pow]
  omega

theorem u16Operand_toNat (lo hi : Byte) : (u16Operand lo hi).toNat = lo.toNat + 256 * hi.toNat :=
  Nat.mod_eq_of_lt (by omega)

@[simp] theorem lowByte_u16Operand (lo hi : Byte) : lowByte (u16Operand lo hi) = lo := by
  apply BitVec.eq_of_toNat_eq
  rw [lowByte, BitVec.toNat_setWidth, u16Operand_toNat]
  omega

@[simp] theorem highByte_u16Operand (lo hi : Byte) : highByte (u16Operand lo hi) = hi := by
  apply BitVec.eq_of_toNat_eq
  rw [highByte, BitVec.toNat_setWidth, BitVec.toNat_ushiftRight, u16Operand_toNat, Nat.shiftRight_eq_div_pow]
  omega

/-! ### Operand formats with a BOOL (R92, R94) -/

/-- How every format with a BOOL ends: `head` holds the bytes before the BOOL byte x. -/
def lastBool (head : List Byte) (k : Bool → Instr) (x : Byte) (rest : List Byte) : Decoded :=
  match boolOperand x with
  | some f => .request (k f) rest
  | none => .illegalOperand (head ++ [x]) rest

theorem operandBool_cons (op : Byte) (k : Bool → Instr) (x : Byte) (rest : List Byte) :
    operandBool op k (x :: rest) = lastBool [op] k x rest := rfl

theorem operandU8Bool_cons (op : Byte) (k : Byte → Bool → Instr) (a x : Byte) (rest : List Byte) :
    operandU8Bool op k (a :: x :: rest) = lastBool [op, a] (k a) x rest := rfl

theorem operandU8U8Bool_cons (op : Byte) (k : Byte → Byte → Bool → Instr) (a b x : Byte) (rest : List Byte) :
    operandU8U8Bool op k (a :: b :: x :: rest) = lastBool [op, a, b] (k a b) x rest := rfl

theorem operandU8U16Bool_cons (op : Byte) (k : Byte → Half → Bool → Instr) (a lo hi x : Byte) (rest : List Byte) :
    operandU8U16Bool op k (a :: lo :: hi :: x :: rest) =
      lastBool [op, a, lo, hi] (k a (u16Operand lo hi)) x rest := rfl

@[simp] theorem lastBool_boolByte (head : List Byte) (k : Bool → Instr) (f : Bool) (rest : List Byte) :
    lastBool head k (boolByte f) rest = .request (k f) rest := by simp [lastBool]

theorem lastBool_illegal (head : List Byte) (k : Bool → Instr) {x : Byte} (h : boolOperand x = none)
    (rest : List Byte) : lastBool head k x rest = .illegalOperand (head ++ [x]) rest := by simp [lastBool, h]

/-! ### Decoding the words of an instruction (R90, R93, R96) -/

/-- A host request is encoded by bytes that decode to it, whatever follows them. -/
theorem decodeRequest_encode {i : Instr} (hwf : i.wf = true) (hi : isRequest i = true) :
    ∃ bytes, encode i = .request bytes ∧ ∀ rest, decodeRequest (bytes ++ rest) = .request i rest := by
  cases i with
  | beginMap nb nl nd br map =>
    have hlen : map.length = 8 := by simpa [Instr.wf] using hwf
    match map, hlen with
    | [_, _, _, _, _, _, _, _], _ => exact ⟨_, rfl, fun _ => rfl⟩
  | test f => exact ⟨_, rfl, lastBool_boolByte [_] _ f⟩
  | rSetdp a f | rSetled a f | showByteBinary a f | showLedsBinary a f | setLed a f | setDp a f =>
    exact ⟨_, rfl, lastBool_boolByte [_, a] _ f⟩
  | showChar a b f | showInt8 a b f => exact ⟨_, rfl, lastBool_boolByte [_, a, b] _ f⟩
  | showInt12 a v f | showInt16 a v f =>
    refine ⟨_, rfl, fun rest => (lastBool_boolByte [_, a, lowByte v, highByte v] _ f rest).trans ?_⟩
    rw [u16Operand_bytes]
  | wDataAuto _ | wDataRead _ | wDataFixed _ | wDispOff _ | wDispOn _ _ | wAddr _ _ => cases hi
  | _ => exact ⟨_, rfl, fun _ => rfl⟩

/-- The instructions that are no host requests are the wire commands with the tails of their frames. -/
theorem exists_wireCmd {i : Instr} (hi : isRequest i = false) : ∃ cmd tail, i = WireCmd.instr tail cmd := by
  cases i with
  | wDataAuto tail => exact ⟨.dataAuto, tail, rfl⟩
  | wDataRead tail => exact ⟨.dataRead, tail, rfl⟩
  | wDataFixed tail => exact ⟨.dataFixed, tail, rfl⟩
  | wDispOff tail => exact ⟨.dispOff, tail, rfl⟩
  | wDispOn b tail => exact ⟨.dispOn b, tail, rfl⟩
  | wAddr a tail => exact ⟨.addr a, tail, rfl⟩
  | _ => cases hi

theorem encode_wireCmd (cmd : WireCmd) (tail : Frame) : encode (cmd.instr tail) = frameCode cmd tail := by
  cases cmd <;> rfl

theorem isRequest_wireCmd (cmd : WireCmd) (tail : Frame) : isRequest (cmd.instr tail) = false := by
  cases cmd <;> rfl

theorem decodeCode_frameCode (cmd : WireCmd) (tail : Frame) :
    decodeCode (frameCode cmd tail) = some (cmd.instr tail) := by
  simp [frameCode, decodeCode, decodeFrame, classify_byte]

/-- Settles O1: a host request by the format of its operands, a wire command by the class of its byte. -/
theorem decodeOfEncodeIsTheInstruction : Obligations.DecodeOfEncodeIsTheInstruction := by
  intro i hwf
  cases hi : isRequest i with
  | true =>
    obtain ⟨bytes, hencode, hdecode⟩ := decodeRequest_encode hwf hi
    rw [hencode]
    have hwhole : decodeRequest bytes = .request i [] := by simpa using hdecode []
    exact ⟨by simp [decodeCode, hwhole], fun _ => hdecode⟩
  | false =>
    obtain ⟨cmd, tail, rfl⟩ := exists_wireCmd hi
    rw [encode_wireCmd]
    exact ⟨decodeCode_frameCode cmd tail, fun h => by cases h⟩

/-! ### What a decoder does with any stream (R93 to R95) -/

/-- `bytes` are the words of the well-formed request `i`. -/
def Encodes (i : Instr) (bytes : List Byte) : Prop := i.wf = true ∧ encode i = .request bytes

/-- What can come of the bytes after the opcode byte `op`, read by `d`: the operands of a request, which with `op` are its words; operands with an invalid BOOL; nothing, `op` being no opcode; or too few operands. The first three hold whatever follows. -/
inductive Reading (op : Byte) (d : List Byte → Decoded) : List Byte → Prop
  | request {i : Instr} {operands : List Byte} (rest : List Byte) (hwords : Encodes i (op :: operands))
      (h : ∀ more, d (operands ++ more) = .request i more) : Reading op d (operands ++ rest)
  | illegalOperand {operands : List Byte} (rest : List Byte)
      (h : ∀ more, d (operands ++ more) = .illegalOperand (op :: operands) more) : Reading op d (operands ++ rest)
  | illegalRequest {bytes : List Byte} (h : ∀ more, d more = .illegalRequest op more) : Reading op d bytes
  | incomplete {bytes : List Byte} (h : d bytes = .incomplete) : Reading op d bytes

/-- Every stream is read by `d` in one of these ways. -/
def Reads (op : Byte) (d : List Byte → Decoded) : Prop := ∀ bytes, Reading op d bytes

/-- A BOOL at the end of the operands is valid, or makes the request illegal. -/
theorem Reading.of_lastBool {op x : Byte} {d : List Byte → Decoded} {init rest : List Byte} {k : Bool → Instr}
    (hk : ∀ f, Encodes (k f) (op :: init ++ [boolByte f]))
    (hd : ∀ more, d (init ++ [x] ++ more) = lastBool (op :: init) k x more) : Reading op d (init ++ [x] ++ rest) := by
  cases hx : boolOperand x with
  | some f =>
    obtain rfl := eq_boolByte_of_boolOperand hx
    exact .request rest (hk f) fun more => (hd more).trans (lastBool_boolByte _ k f more)
  | none => exact .illegalOperand rest fun more => (hd more).trans (lastBool_illegal _ k hx more)

section
variable {op : Byte}

theorem reads_noOperand {i : Instr} (h : Encodes i [op]) : Reads op (.request i) :=
  fun bytes => .request (operands := []) bytes h fun _ => rfl

theorem reads_operandU8 {k : Byte → Instr} (hk : ∀ a, Encodes (k a) [op, a]) : Reads op (operandU8 k)
  | [] => .incomplete rfl
  | a :: rest => .request (operands := [a]) rest (hk a) fun _ => rfl

theorem reads_operandU8U8 {k : Byte → Byte → Instr} (hk : ∀ a b, Encodes (k a b) [op, a, b]) :
    Reads op (operandU8U8 k)
  | [] | [_] => .incomplete rfl
  | a :: b :: rest => .request (operands := [a, b]) rest (hk a b) fun _ => rfl

theorem reads_operandBool {k : Bool → Instr} (hk : ∀ f, Encodes (k f) [op, boolByte f]) : Reads op (operandBool op k)
  | [] => .incomplete rfl
  | _ :: _ => .of_lastBool (init := []) hk fun _ => rfl

theorem reads_operandU8Bool {k : Byte → Bool → Instr} (hk : ∀ a f, Encodes (k a f) [op, a, boolByte f]) :
    Reads op (operandU8Bool op k)
  | [] | [_] => .incomplete rfl
  | a :: _ :: _ => .of_lastBool (init := [a]) (hk a) fun _ => rfl

theorem reads_operandU8U8Bool {k : Byte → Byte → Bool → Instr}
    (hk : ∀ a b f, Encodes (k a b f) [op, a, b, boolByte f]) : Reads op (operandU8U8Bool op k)
  | [] | [_] | [_, _] => .incomplete rfl
  | a :: b :: _ :: _ => .of_lastBool (init := [a, b]) (hk a b) fun _ => rfl

theorem reads_operandU8U16Bool {k : Byte → Half → Bool → Instr}
    (hk : ∀ a v f, Encodes (k a v f) [op, a, lowByte v, highByte v, boolByte f]) : Reads op (operandU8U16Bool op k)
  | [] | [_] | [_, _] | [_, _, _] => .incomplete rfl
  | a :: lo :: hi :: _ :: _ =>
    .of_lastBool (init := [a, lo, hi]) (fun f => by simpa using hk a (u16Operand lo hi) f) fun _ => rfl

theorem reads_operandU8x4 {k : Byte → Byte → Byte → Byte → Instr}
    (hk : ∀ a b c d, Encodes (k a b c d) [op, a, b, c, d]) : Reads op (operandU8x4 k)
  | [] | [_] | [_, _] | [_, _, _] => .incomplete rfl
  | a :: b :: c :: d :: rest => .request (operands := [a, b, c, d]) rest (hk a b c d) fun _ => rfl

theorem reads_operandU8x4Map {k : Byte → Byte → Byte → Byte → List Byte → Instr}
    (hk : ∀ a b c d map, map.length = 8 → Encodes (k a b c d map) ([op, a, b, c, d] ++ map)) :
    Reads op (operandU8x4Map k) := by
  intro bytes
  fun_cases operandU8x4Map k bytes
  case case1 a b c d m0 m1 m2 m3 m4 m5 m6 m7 rest =>
    exact .request (operands := [a, b, c, d, m0, m1, m2, m3, m4, m5, m6, m7]) rest (hk a b c d _ rfl) fun _ => rfl
  case case2 => exact .incomplete (by simp [operandU8x4Map])

end

/-! ### The opcode map (R93, R94) -/

/-- R94: the opcodes outside the map. -/
theorem decodeOpcode_unassigned {op : Byte}
    (h : op.toNat = 0x00 ∨ (0x08 ≤ op.toNat ∧ op.toNat ≤ 0x0F) ∨ (0x12 ≤ op.toNat ∧ op.toNat ≤ 0x1F) ∨
      (0x26 ≤ op.toNat ∧ op.toNat ≤ 0x2F) ∨ 0x3F ≤ op.toNat) (rest : List Byte) :
    decodeOpcode op rest = .illegalRequest op rest := by
  unfold decodeOpcode
  split
  case h_31 => rfl
  all_goals omega

/-- To read the row of an opcode known by its number. -/
theorem Reads.of_toNat {op : Byte} {n : Nat} (hop : op.toNat = n)
    (h : Reads (BitVec.ofNat 8 n) (decodeOpcode (BitVec.ofNat 8 n))) : Reads op (decodeOpcode op) := by
  rwa [← hop, BitVec.ofNat_toNat, BitVec.setWidth_eq] at h

/-- The opcode map: its rows (the cases, in the order of `decodeOpcode`) by their operand format, every other byte as unassigned. -/
theorem reads_decodeOpcode (op : Byte) : Reads op (decodeOpcode op) := by
  fun_cases decodeOpcode op []
  case case1 h | case2 h | case4 h | case6 h | case7 h | case14 h | case18 h | case19 h | case30 h =>
    exact .of_toNat h (reads_noOperand ⟨rfl, rfl⟩)
  case case3 h | case5 h | case8 h | case9 h | case11 h | case15 h | case20 h =>
    exact .of_toNat h (reads_operandU8 fun _ => ⟨rfl, rfl⟩)
  case case10 h => exact .of_toNat h (reads_operandU8U8 fun _ _ => ⟨rfl, rfl⟩)
  case case21 h => exact .of_toNat h (reads_operandBool fun _ => ⟨rfl, rfl⟩)
  case case12 h | case13 h | case22 h | case27 h | case28 h | case29 h =>
    exact .of_toNat h (reads_operandU8Bool fun _ _ => ⟨rfl, rfl⟩)
  case case23 h | case24 h => exact .of_toNat h (reads_operandU8U8Bool fun _ _ _ => ⟨rfl, rfl⟩)
  case case25 h | case26 h => exact .of_toNat h (reads_operandU8U16Bool fun _ _ _ => ⟨rfl, rfl⟩)
  case case16 h => exact .of_toNat h (reads_operandU8x4 fun _ _ _ _ => ⟨rfl, rfl⟩)
  case case17 h =>
    exact .of_toNat h (reads_operandU8x4Map fun _ _ _ _ map hlen => ⟨by simpa [Instr.wf] using hlen, rfl⟩)
  case case31 =>
    simp only [imp_false] at *
    exact fun _ => .illegalRequest (decodeOpcode_unassigned (by omega))

/-! ### What the decoders accept -/

theorem words_of_decodeRequest {bytes rest : List Byte} {i : Instr} (h : decodeRequest bytes = .request i rest) :
    ∃ words, Encodes i words ∧ bytes = words ++ rest := by
  cases bytes with
  | nil => cases h
  | cons op bytes =>
    change decodeOpcode op bytes = .request i rest at h
    cases reads_decodeOpcode op bytes with
    | request rest' hwords hd => cases (hd rest').symm.trans h; exact ⟨_, hwords, rfl⟩
    | illegalOperand rest' hd => cases (hd rest').symm.trans h
    | illegalRequest hd => cases (hd bytes).symm.trans h
    | incomplete hd => cases hd.symm.trans h

/-- The class of a byte is that of the command with this byte (R96 to R98). -/
theorem byte_of_classify {c : Byte} {cmd : WireCmd} (h : classify c = some cmd) : cmd.byte = c := by
  unfold classify at h
  split_ifs at h with h1 h2 h3 h4 hon haddr <;> cases h
  · exact h1.symm
  · exact h2.symm
  · exact h3.symm
  · exact h4.symm
  · revert c; decide
  · revert c; decide

/-- Settles O2: request streams by the opcode map, frames by the class of their first byte. -/
theorem decodedWordsAreTheEncoding : Obligations.DecodedWordsAreTheEncoding := by
  refine ⟨fun bytes i rest h => ?_, fun f i h => ?_⟩
  · obtain ⟨words, ⟨hwf, hencode⟩, hbytes⟩ := words_of_decodeRequest h
    rw [hencode]
    exact ⟨hwf, isRequest_of_decodeRequest h, hbytes⟩
  · obtain ⟨sent, reads⟩ := f
    cases sent with
    | nil => cases h
    | cons c bytes =>
      obtain ⟨cmd, hcmd, rfl⟩ := Option.map_eq_some_iff.mp h
      obtain rfl := byte_of_classify hcmd
      exact ⟨isRequest_wireCmd cmd _, encode_wireCmd cmd _⟩

/-! ### Illegal and incomplete streams (R94, R95) -/

section
variable {s : State} (hpending : s.wire.pending = []) (hfault : s.fault = none)
include hpending hfault

theorem step_illegalRequest {op : Byte} {rest : List Byte} (h : decodeRequest s.requests = .illegalRequest op rest) :
    step s = .next { s with requests := rest, fault := some ⟨.illegalRequest, [op]⟩ } := by
  simp [step, fetch_of_settled hpending hfault, fetchRequest, h, State.takeFault]

theorem step_illegalOperand {bytes rest : List Byte}
    (h : decodeRequest s.requests = .illegalOperand bytes rest) :
    step s = .next { s with requests := rest, fault := some ⟨.illegalOperand, bytes⟩ } := by
  simp [step, fetch_of_settled hpending hfault, fetchRequest, h, State.takeFault]

theorem step_incomplete (h : decodeRequest s.requests = .incomplete) : step s = .next s := by
  simp [step, fetch_of_settled hpending hfault, fetchRequest, h]

end

/-- An invalid BOOL after a `head` of the opcode and the operands before it, by the formats of the eleven requests with a BOOL. -/
theorem decodeRequest_illegalOperand {head : List Byte} {x : Byte} (hx : boolOperand x = none) (rest : List Byte)
    (h : head = [0x35#8] ∨
      (∃ op a : Byte, head = [op, a] ∧
        (op = 0x22#8 ∨ op = 0x23#8 ∨ op = 0x36#8 ∨ op = 0x3B#8 ∨ op = 0x3C#8 ∨ op = 0x3D#8)) ∨
      (∃ op a b : Byte, head = [op, a, b] ∧ (op = 0x37#8 ∨ op = 0x38#8)) ∨
      (∃ op a b c : Byte, head = [op, a, b, c] ∧ (op = 0x39#8 ∨ op = 0x3A#8))) :
    decodeRequest (head ++ x :: rest) = .illegalOperand (head ++ [x]) rest := by
  suffices ∃ k, decodeRequest (head ++ x :: rest) = lastBool head k x rest by
    obtain ⟨k, hk⟩ := this
    exact hk.trans (lastBool_illegal head k hx rest)
  rcases h with rfl | ⟨op, a, rfl, hop⟩ | ⟨op, a, b, rfl, hop⟩ | ⟨op, a, b, c, rfl, hop⟩
  · exact ⟨_, operandBool_cons ..⟩
  · rcases hop with rfl | rfl | rfl | rfl | rfl | rfl <;> exact ⟨_, operandU8Bool_cons ..⟩
  · rcases hop with rfl | rfl <;> exact ⟨_, operandU8U8Bool_cons ..⟩
  · rcases hop with rfl | rfl <;> exact ⟨_, operandU8U16Bool_cons ..⟩

/-- Settles O3: both illegal encodings are decoded as such, and the step takes the fault. -/
theorem illegalEncodingsFault : Obligations.IllegalEncodingsFault := by
  intro s hfault hpending
  refine ⟨fun op rest hop hreq => step_illegalRequest hpending hfault ?_,
    fun head x rest hhead h0 h1 hreq => step_illegalOperand hpending hfault ?_⟩
  · rw [hreq]
    exact decodeOpcode_unassigned hop rest
  · rw [hreq]
    exact decodeRequest_illegalOperand (boolOperand_eq_none h0 h1) rest hhead

/-- If more bytes make a stream a whole request with nothing left over, the stream lacks them. -/
theorem decodeRequest_incomplete {bytes more : List Byte} {i : Instr} (hmore : more ≠ [])
    (h : decodeRequest (bytes ++ more) = .request i []) : decodeRequest bytes = .incomplete := by
  cases bytes with
  | nil => rfl
  | cons op bytes =>
    change decodeOpcode op (bytes ++ more) = .request i [] at h
    cases reads_decodeOpcode op bytes with
    | request rest _ hd =>
      rw [List.append_assoc, hd] at h
      simp [hmore] at h
    | illegalOperand rest hd =>
      rw [List.append_assoc, hd] at h
      cases h
    | illegalRequest hd => cases (hd _).symm.trans h
    | incomplete hd => exact hd

/-- Settles O4: a proper beginning lacks the rest of the words, which decode as a whole; the waiting step is that of log 1. -/
theorem incompleteRequestsWait : Obligations.IncompleteRequestsWait := by
  refine ⟨fun i hwf hi n hn => ?_, fun s hfault hpending => step_incomplete hpending hfault⟩
  obtain ⟨bytes, hencode, hdecode⟩ := decodeRequest_encode hwf hi
  rw [hencode] at hn ⊢
  have hmore : bytes.drop n ≠ [] := List.drop_eq_nil_iff.not.mpr hn.not_ge
  have hwhole : decodeRequest (bytes.take n ++ bytes.drop n) = .request i [] := by simpa using hdecode []
  exact decodeRequest_incomplete hmore hwhole

/-- Settles O5: by running the decoders. -/
theorem sampleWordsDecode : Obligations.SampleWordsDecode := by
  unfold Obligations.SampleWordsDecode
  decide

end Sys2Proof.Machine
end

section
/-! Proofs of the transport statements (O12 to O17). Each request is `perform` of one primitive, whose branches `openFrame_eq` and its kin state in the order of R125: a clause names the branch, which either raises or completes. -/

namespace Sys2Proof.Machine

/-! ### Raw transactions (R115 to R117, R119 to R121) -/

/-- Settles O12: by the branches of `openFrame`, none of which looks at the data line. -/
theorem tStartOpensATransaction : Obligations.TStartOpensATransaction := by
  intro s hfault
  refine ⟨rfl, fun hpins => ?_, fun hpins hframe => ?_, fun hpins hframe => ?_⟩
  · exact perform_raise hfault (by simp [openFrame_eq, hpins])
  · exact perform_raise hfault (by simp [openFrame_eq, hpins, hframe])
  · exact perform_ok hfault (by simp [openFrame_eq, hpins, hframe])

/-- Settles O13: by the branches of `closeFrame`; that `S P` has no effect is a clause of O59. -/
theorem tStopClosesATransaction : Obligations.TStopClosesATransaction := by
  intro s hfault
  obtain ⟨-, hempty, -⟩ := framesOutsideTheTableHavoc
  refine ⟨rfl, fun hpins => ?_, fun hpins hframe => ?_, fun hpins hframe => ?_, hempty⟩
  · exact perform_raise hfault (by simp [closeFrame_eq, hpins])
  · exact perform_raise hfault (by simp [closeFrame_eq, hpins, hframe])
  · exact perform_ok hfault (by simp [closeFrame_eq, hpins, hframe])

/-- Settles O14: by the branches of `sendByte`, none of which looks at the byte. -/
theorem tWrbyteShiftsAByteOut : Obligations.TWrbyteShiftsAByteOut := by
  intro s b hfault
  refine ⟨rfl, fun hpins => ?_, fun hpins hframe => ?_, fun hpins hframe hdir => ?_, fun hpins hframe hdir => ?_⟩
  · exact perform_raise hfault (by simp [sendByte_eq, hpins])
  · exact perform_raise hfault (by simp [sendByte_eq, hpins, hframe])
  · exact perform_raise hfault (by simp [sendByte_eq, hpins, hframe, hdir])
  · exact perform_ok hfault (by simp [sendByte_eq, hpins, hframe, hdir])

/-- Settles O16: by the branches of `sendCommand`, which are those of a frame procedure. -/
theorem tWrcmdSendsAOneByteTransaction : Obligations.TWrcmdSendsAOneByteTransaction := by
  intro s b hfault
  refine ⟨rfl, fun hpins => ?_, fun hpins hframe => ?_, fun hpins hframe hdir => ?_, fun hpins hframe hdir => ?_⟩
  · exact perform_raise hfault (by simp [sendCommand_eq, framed, hpins])
  · exact perform_raise hfault (by simp [sendCommand_eq, framed, hpins, hframe])
  · exact perform_raise hfault (by simp [sendCommand_eq, framed, hpins, hframe, hdir])
  · exact perform_ok hfault (by rw [sendCommand_eq, framed_ready hpins hframe hdir]; rfl)

/-- Settles O17: the lines configured is the one check of `dioIn` and `dioOut`. -/
theorem tDioRequestsSetTheDirection : Obligations.TDioRequestsSetTheDirection := by
  intro s hfault
  refine ⟨rfl, rfl, fun hpins => ⟨?_, ?_⟩, fun hpins => ⟨?_, ?_⟩⟩
  · exact perform_raise hfault (by simp [dioIn_eq, hpins])
  · exact perform_raise hfault (by simp [dioOut_eq, hpins])
  · exact perform_ok hfault (by simp [dioIn_eq, hpins])
  · exact perform_ok hfault (by simp [dioOut_eq, hpins])

/-! ### Reads (R118) -/

theorem exec_tRdbyte (s : State) :
    exec .tRdbyte s = perform .tRdbyte s fun s => (receiveByte s).bind fun v s => .ok () (s.respond v) := rfl

/-- A frame that reads is more than its command's byte, which only the read command takes (R72 to R77, log 16). -/
theorem FarEnd.command_of_reads (e : FarEnd) {cmd : WireCmd} (hcmd : cmd ≠ .dataRead) {tail : Frame}
    (hreads : tail.reads ≠ 0) : e.command tail cmd = .unknown := by
  have htail : tail ≠ .empty := fun h => hreads (congrArg Frame.reads h)
  cases cmd with
  | dataRead => exact absurd rfl hcmd
  | dataAuto => exact if_neg htail
  | dataFixed => exact if_neg htail
  | dispOff => exact if_neg htail
  | dispOn b => exact if_neg htail
  | addr slot => exact if_pos hreads

/-- R118, R78: a read in a frame that 0x42 did not open havocs the far end, in one that sends nothing too (log 16). -/
theorem FarEnd.read_of_reads (e : FarEnd) {f : Frame} (hreads : f.reads ≠ 0) (hopens : f.sent.head? ≠ some 0x42#8) :
    e.read f = .unknown := by
  obtain ⟨-, -, hreadsOnly⟩ := framesOutsideTheTableHavoc
  obtain ⟨sent, reads⟩ := f
  cases sent with
  | nil => exact hreadsOnly reads e hreads
  | cons c bytes =>
    cases hc : classify c with
    | none => simp [FarEnd.read, hc, FarEnd.uncovered]
    | some cmd =>
      obtain rfl := byte_of_classify hc
      have hcmd : cmd ≠ .dataRead := fun h => hopens (by simp [h, WireCmd.byte])
      rw [FarEnd.read_command]
      exact FarEnd.command_of_reads e hcmd hreads

/-- Settles O15: by the branches of `receiveByte`, the response being its draw whatever that is; the last clause is the far end's reading, by log 16 for a frame that sends nothing too. -/
theorem tRdbyteShiftsADrawIn : Obligations.TRdbyteShiftsADrawIn := by
  intro s hfault
  rw [exec_tRdbyte]
  refine ⟨rfl, fun hpins => ?_, fun hpins hframe => ?_, fun hpins hframe hdir => ?_, fun hpins hframe hdir => ?_,
    fun f e hreads hopens => FarEnd.read_of_reads e hreads hopens⟩
  · exact perform_raise hfault (by simp [receiveByte_eq, hpins])
  · exact perform_raise hfault (by simp [receiveByte_eq, hpins, hframe])
  · exact perform_raise hfault (by simp [receiveByte_eq, hpins, hframe, hdir])
  · exact perform_ok hfault (by simp [receiveByte_eq, hpins, hframe, hdir, State.respond])

end Sys2Proof.Machine
end

section
/-! Proofs of the codec's statements (O20 to O22). The table is read through its two fixed properties, the blank entry and the single segments; `encode` through its two cases, in the table and beyond it; `rawEncode` through its value, the operand modulo 0x80. -/

namespace Sys2Proof.Machine

/-! ### The segment table (R140) -/

/-- P2 of R140. -/
@[simp] theorem segTable_blank : segTable 32 = 0#7 := if_pos rfl

theorem segSingleBase_allowed : singleBaseAllowed segSingleBase := by
  unfold segSingleBase
  split
  · assumption
  · decide

/-- P5 of R140: no single-segment entry is the blank one, so P2 never overrides it (log 7). -/
theorem segTable_single {k : Nat} (h : segSingleBase + k < 47) (hk : k < 7) :
    segTable ⟨segSingleBase + k, h⟩ = 1#7 <<< k := by
  have hblank : segSingleBase + k ≠ 32 := by
    have hclear : segSingleBase + 6 < 32 ∨ 32 < segSingleBase := segSingleBase_allowed.2
    omega
  simp [segTable, Config.blankIndex, hblank, hk]

/-- Settles O21: the base is `segSingleBase`, which R140 allows whatever the free values are. -/
theorem segmentTableHasItsProperties : Obligations.SegmentTableHasItsProperties :=
  ⟨segTable_blank, segSingleBase, segSingleBase_allowed.1, fun _ => segTable_single⟩

/-! ### Encoding (R142 to R144) -/

theorem segEncode_of_lt {x : Byte} (h : x.toNat < 47) : segEncode x = (segTable ⟨x.toNat, h⟩).setWidth 8 := dif_pos h

theorem segEncode_of_ge {x : Byte} (h : 47 ≤ x.toNat) : segEncode x = 0x00#8 := by
  simp [segEncode, Nat.not_lt.mpr h]

theorem segEncode_blank : segEncode 32#8 = 0x00#8 :=
  calc segEncode 32#8 = (segTable 32).setWidth 8 := segEncode_of_lt (by decide)
    _ = 0x00#8 := by simp

theorem Pattern.toNat_setWidth_lt (p : Pattern) : (p.setWidth 8).toNat < 0x80 := by
  rw [BitVec.toNat_setWidth_of_le (by decide)]
  exact p.isLt

theorem segEncode_toNat_lt (x : Byte) : (segEncode x).toNat < 0x80 := by
  rcases Nat.lt_or_ge x.toNat 47 with h | h
  · rw [segEncode_of_lt h]; exact Pattern.toNat_setWidth_lt _
  · rw [segEncode_of_ge h]; decide

@[simp] theorem rawEncode_toNat (x : Byte) : (rawEncode x).toNat = x.toNat % 0x80 :=
  (BitVec.toNat_and x 0x7F#8).trans (Nat.and_two_pow_sub_one_eq_mod x.toNat 7)

theorem rawEncode_toNat_lt (x : Byte) : (rawEncode x).toNat < 0x80 := by
  rw [rawEncode_toNat]; exact Nat.mod_lt _ (by decide)

theorem rawEncode_eq_self_iff (x : Byte) : rawEncode x = x ↔ x.toNat < 0x80 := by
  rw [← BitVec.toNat_inj, rawEncode_toNat, Nat.mod_eq_iff_lt (by decide)]

/-- Settles O22: a pattern has seven bits, so `segEncode` answers one below 0x80; so does `rawEncode`, which changes nothing there. -/
theorem codecNeverTouchesTheDecimalPoint : Obligations.CodecNeverTouchesTheDecimalPoint := fun x =>
  ⟨segEncode_toNat_lt x, rawEncode_toNat_lt x, fun h => (segEncode_of_ge h).trans segEncode_blank.symm,
    (rawEncode_eq_self_iff _).mpr (rawEncode_toNat_lt x), rawEncode_eq_self_iff x⟩

/-! ### Requests (R142, R143) -/

theorem perform_respond {s : State} (hfault : s.fault = none) (i : Instr) (v : Byte) :
    perform i s (fun s => .ok () (s.respond v)) = .next (s.respond v) := perform_ok hfault rfl

theorem exec_sEncode {s : State} (hfault : s.fault = none) (x : Byte) :
    exec (.sEncode x) s = .next (s.respond (segEncode x)) := perform_respond hfault (.sEncode x) (segEncode x)

theorem exec_sRawenc {s : State} (hfault : s.fault = none) (x : Byte) :
    exec (.sRawenc x) s = .next (s.respond (rawEncode x)) := perform_respond hfault (.sRawenc x) (rawEncode x)

/-- Settles O20: both requests respond and do no more; S_ENCODE's answer by the two cases of `segEncode`. -/
theorem codecRequestsAnswerThePattern : Obligations.CodecRequestsAnswerThePattern := by
  intro s x hfault
  refine ⟨rfl, rfl, fun h => ?_, fun h => ?_, exec_sRawenc hfault x⟩
  · rw [exec_sEncode hfault, segEncode_of_lt h]; rfl
  · rw [exec_sEncode hfault, segEncode_of_ge h]; rfl

end Sys2Proof.Machine
end

section
/-! Proofs of the register file's statements (O23 to O29). The indexed requests are `perform` of one body behind one index check, whose two cases are said once; the merges and the one-bit write of the LED mask are told by the bits of their result, each the new one at its place and the old one elsewhere. -/

namespace Sys2Proof.Machine

/-! ### The index check (R150) -/

theorem onIndex_of_lt {i : Byte} {k : Index} (h : k.val = i.toNat) (body : Index → State → Sub Unit) (s : State) :
    onIndex i body s = body k s := by
  simp only [onIndex, shadowIndex_some h]

theorem onIndex_of_ge {i : Byte} (h : 8 ≤ i.toNat) (body : Index → State → Sub Unit) (s : State) :
    onIndex i body s = .raise .indexRange s := by
  simp only [onIndex, shadowIndex_none h]

/-! ### The merges, bit by bit (R157) -/

/-- The segment mask of R157 is every bit but bit 7. -/
theorem segMask_getLsbD {k : Nat} (hk : k < 8) : (0x7F#8).getLsbD k = !decide (k = 7) := by
  revert k; decide

/-- The decimal-point mask of R157 is bit 7. -/
theorem dpMask_getLsbD {k : Nat} (hk : k < 8) : (0x80#8).getLsbD k = decide (k = 7) := by
  revert k; decide

theorem mergeSeg_getLsbD (old pat : Byte) {k : Nat} (hk : k < 8) :
    (mergeSeg old pat).getLsbD k = if k = 7 then old.getLsbD 7 else pat.getLsbD k := by
  rw [mergeSeg, BitVec.getLsbD_or, BitVec.getLsbD_and, BitVec.getLsbD_and, segMask_getLsbD hk, dpMask_getLsbD hk]
  by_cases h : k = 7 <;> simp [h]

theorem mergeDp_getLsbD (old : Byte) (on : Bool) {k : Nat} (hk : k < 8) :
    (mergeDp old on).getLsbD k = if k = 7 then on else old.getLsbD k := by
  have hpoint : (if on then 0x80#8 else 0x00#8).getLsbD k = (on && decide (k = 7)) := by
    cases on with
    | true => exact dpMask_getLsbD hk
    | false => exact BitVec.getLsbD_zero
  rw [mergeDp, BitVec.getLsbD_or, BitVec.getLsbD_and, segMask_getLsbD hk, hpoint]
  by_cases h : k = 7 <;> simp [h]

theorem mergeDp_mergeSeg_comm (old pat : Byte) (on : Bool) :
    mergeDp (mergeSeg old pat) on = mergeSeg (mergeDp old on) pat := by
  refine BitVec.eq_of_getLsbD_eq fun k hk => ?_
  rw [mergeDp_getLsbD _ _ hk, mergeSeg_getLsbD _ _ hk, mergeSeg_getLsbD _ _ hk, mergeDp_getLsbD _ _ (by decide)]
  split <;> rfl

theorem mergeDp_getLsbD_of_lt (old : Byte) (on : Bool) {k : Nat} (hk : k < 7) :
    (mergeDp old on).getLsbD k = old.getLsbD k :=
  (mergeDp_getLsbD old on (by omega)).trans (if_neg (by omega))

/-- Settles O28: the formulas are the definitions; the laws are read off the bits. -/
theorem mergesKeepTheOtherField : Obligations.MergesKeepTheOtherField := fun old pat on =>
  ⟨rfl, rfl, mergeDp_mergeSeg_comm old pat on, mergeSeg_getLsbD old pat (by decide),
    fun _ => mergeDp_getLsbD_of_lt old on⟩

/-! ### The LED mask, bit by bit (R154) -/

theorem setBit_getLsbD (m : Byte) (i : Index) (on : Bool) {j : Nat} (hj : j < 8) :
    (setBit m i on).getLsbD j = if j = i.val then on else m.getLsbD j := by
  split
  · next h => rw [h, setBit_getLsbD_self]
  · next h => exact setBit_getLsbD_of_ne m (k := ⟨j, hj⟩) (fun heq => h (congrArg Fin.val heq)) on

/-! ### Slots and their address bytes (R158, R98) -/

/-- The base address has its low four bits clear, so a slot adds to it without a carry. -/
theorem addr_byte_toNat (slot : Slot) : (WireCmd.addr slot).byte.toNat = 0xC0 + slot.toNat := by
  have hslot : (slot.setWidth 8).toNat = slot.toNat := BitVec.toNat_setWidth_of_le (by decide)
  calc (WireCmd.addr slot).byte.toNat = 2 ^ 4 * 12 ||| slot.toNat := by
        rw [WireCmd.byte, BitVec.toNat_or, hslot]; rfl
    _ = 2 ^ 4 * 12 + slot.toNat := (Nat.two_pow_add_eq_or_of_lt slot.isLt 12).symm

/-- Settles O29: a position is below 8, so no slot wraps. -/
theorem slotsFollowTheDigitMap : Obligations.SlotsFollowTheDigitMap := fun s l =>
  ⟨segSlot_toNat s l, ledSlot_toNat s l, addr_byte_toNat⟩

/-! ### Writes of the shadow (R151, R153, R154) -/

/-- Settles O23: by the two cases of the index check. -/
theorem rSetdigWritesAWholeByte : Obligations.RSetdigWritesAWholeByte := by
  intro s i b hfault
  refine ⟨rfl, fun hi => ?_, fun k hk => ?_⟩
  · exact perform_raise hfault (onIndex_of_ge hi _ s)
  · exact perform_ok hfault (onIndex_of_lt hk _ s)

/-- Settles O25: by the two cases of the index check; the byte written is the merge of R157. -/
theorem rSetdpWritesBitSevenOnly : Obligations.RSetdpWritesBitSevenOnly := by
  intro s i on hfault
  refine ⟨rfl, fun hi => ?_, fun k hk => ⟨mergeDp s.dig[k] on, ?_, fun j hj => ?_, ?_⟩⟩
  · exact perform_raise hfault (onIndex_of_ge hi _ s)
  · exact mergeDp_getLsbD s.dig[k] on (by decide)
  · exact mergeDp_getLsbD_of_lt s.dig[k] on hj
  · exact perform_ok hfault (onIndex_of_lt hk _ s)

/-- Settles O26: by the two cases of the index check, neither of which looks at NUM_LEDS; the mask written is `setBit` of the old one. -/
theorem rSetledWritesOneBit : Obligations.RSetledWritesOneBit := by
  intro s i on hfault
  refine ⟨rfl, fun hi => ?_, fun k hk => ⟨setBit s.ledm k on, fun j hj => ?_, ?_⟩⟩
  · exact perform_raise hfault (onIndex_of_ge hi _ s)
  · exact setBit_getLsbD s.ledm k on hj
  · exact perform_ok hfault (onIndex_of_lt hk _ s)

/-! ### Reads of the shadow and of the digit map (R152, R155, R156) -/

/-- Settles O24: R_GETDIG by the two cases of the index check; R_GETLEDM has no check. -/
theorem shadowReadsAnswerTheShadow : Obligations.ShadowReadsAnswerTheShadow := by
  intro s i hfault
  refine ⟨rfl, rfl, fun hi => ?_, fun k hk => ?_, ?_⟩
  · exact perform_raise hfault (onIndex_of_ge hi _ s)
  · exact perform_ok hfault (onIndex_of_lt hk _ s)
  · exact perform_respond hfault .rGetledm s.ledm

/-- Settles O27: by the two cases of the INIT check and, behind it, the two of the index check. -/
theorem rPhysAnswersThePosition : Obligations.RPhysAnswersThePosition := by
  intro s l hfault
  refine ⟨rfl, fun hinit => ?_, fun hinit hl => ?_, fun hinit k hk => ?_⟩
  · exact perform_raise hfault (guarded_uninit hinit _)
  · exact perform_raise hfault ((guarded_init hinit _).trans (onIndex_of_ge hl _ s))
  · exact perform_ok hfault ((guarded_init hinit _).trans (onIndex_of_lt hk _ s))

end Sys2Proof.Machine
end

section
/-! Proofs of the sequencer's one-frame statements (O30, O33, O35, O36, O38, O44 to O46), and what all of the sequencer's statements rest on: a request behind the INIT check meets its contract if it does nothing where it sends nothing, first of all opens a frame (`Sub.Opens`), and runs through from a ready state. -/

namespace Sys2Proof.Machine

/-! ### Requests behind the INIT check (R170) -/

theorem sequenced_uninit {s : State} (hfault : s.fault = none) (hinit : s.init = false) (i : Instr)
    (body : State → Sub Unit) : sequenced i s body = .next (faulted i .notInitialized s) :=
  perform_raise hfault (guarded_uninit hinit body)

theorem sequenced_ok {s t : State} (hfault : s.fault = none) (hinit : s.init = true) {i : Instr}
    {body : State → Sub Unit} (hbody : body s = .ok () t) : sequenced i s body = .next t :=
  perform_ok hfault ((guarded_init hinit body).trans hbody)

/-! ### Procedures that begin with a frame (R170, R122 to R124) -/

/-- The first thing `x` does is a frame opened from `u`. -/
def Sub.Opens {α : Type} (x : Sub α) (u : State) : Prop := ∃ done, x = framed u done

theorem framed_bind {α β : Type} (u : State) (done : Sub α) (f : α → State → Sub β) :
    (framed u done).bind f = framed u (done.bind f) := by
  unfold framed
  split_ifs <;> rfl

theorem Sub.Opens.bind {α β : Type} {x : Sub α} {u : State} (h : x.Opens u) (f : α → State → Sub β) :
    (x.bind f).Opens u := by
  obtain ⟨done, rfl⟩ := h
  exact ⟨done.bind f, framed_bind u done f⟩

theorem framed_of_ready {α : Type} {s : State} (h : s.Ready) (done : Sub α) : framed s done = done := by
  obtain ⟨-, -, hpins, hframe, hdir⟩ := h
  exact framed_ready hpins hframe hdir done

/-- With a frame open, or the line as input, a request that begins with a frame faults there. -/
theorem perform_opens {s u : State} (hfault : s.fault = none) {i : Instr} {body : State → Sub Unit}
    (hopens : (body s).Opens u) (hpins : u.pinsCfg = true) (hline : u.inFrame = true ∨ u.dioDir = .in_) :
    perform i s body = .next (firstFrameFault i u) := by
  obtain ⟨done, hbody⟩ := hopens
  cases hframe : u.inFrame with
  | true =>
    have hraise : body s = .raise .frameNest u := by rw [hbody]; simp [framed, hpins, hframe]
    rw [perform_raise hfault hraise]
    simp [firstFrameFault, hframe]
  | false =>
    have hdir : u.dioDir = .in_ := by simpa [hframe] using hline
    have hraise : body s = .raise .dirMismatch { u with inFrame := true, wire := u.wire.emits [.start] } := by
      rw [hbody]; simp [framed, hpins, hframe, hdir]
    rw [perform_raise hfault hraise]
    simp [firstFrameFault, hframe]

theorem State.Ready.init {s : State} (h : s.Ready) : s.init = true := by
  obtain ⟨-, hinit, -⟩ := h
  exact hinit

/-! ### Contracts -/

/-- `t` has the lines as `s` has them. -/
def State.SameLines (s t : State) : Prop := t.pinsCfg = s.pinsCfg ∧ t.inFrame = s.inFrame ∧ t.dioDir = s.dioDir

section
variable {i : Instr} {body : State → Sub Unit} {sends : State → Prop} {before after : State → State}
  {events : State → List Event}

/-- A contract, by the four things its rule says of the request. -/
theorem sequencerContract_of_opens (hexec : ∀ s, exec i s = sequenced i s body)
    (hidle : ∀ s, ¬ sends s → body s = .ok () s) (hlines : ∀ s : State, s.SameLines (before s))
    (hopens : ∀ s, sends s → (body s).Opens (before s))
    (hruns : ∀ s, s.Ready → sends s → body s = .ok () { after s with wire := s.wire.emits (events s) }) :
    SequencerContract i sends before after events := by
  intro s hfault
  rw [hexec]
  refine ⟨fun hinit => sequenced_uninit hfault hinit i body,
    fun hinit hsends => sequenced_ok hfault hinit (hidle s hsends),
    fun hready hsends => sequenced_ok hfault hready.init (hruns s hready hsends), fun habnormal hsends => ?_⟩
  obtain ⟨-, hinit, hpins, hline⟩ := habnormal
  obtain ⟨hpins', hframe', hdir'⟩ := hlines s
  have hbody : (guarded checkInit body s).Opens (before s) := by
    rw [guarded_init hinit]
    exact hopens s hsends
  refine perform_opens hfault hbody (hpins'.trans hpins) ?_
  rw [hframe', hdir']
  exact hline

/-- A request of one frame procedure. -/
theorem sequencerContract_of_framed (hexec : ∀ s, exec i s = sequenced i s body)
    (hidle : ∀ s, ¬ sends s → body s = .ok () s) (hlines : ∀ s : State, s.SameLines (before s))
    (hready : ∀ s : State, s.Ready → (before s).Ready)
    (hbody : ∀ s, sends s → body s = framed (before s) (.ok () { after s with wire := s.wire.emits (events s) })) :
    SequencerContract i sends before after events :=
  sequencerContract_of_opens hexec hidle hlines (fun s hsends => ⟨_, hbody s hsends⟩)
    fun s hs hsends => (hbody s hsends).trans (framed_of_ready (hready s hs) _)

end

/-! ### Counts (R173) -/

theorem clampDigits_val (n : Byte) :
    (clampDigits n).val = if n.toNat = 0 then 1 else if 8 < n.toNat then 8 else n.toNat := by
  unfold clampDigits
  split_ifs <;> rfl

theorem clampFeature_val (n : Byte) : (clampFeature n).val = if 8 < n.toNat then 0 else n.toNat := by
  unfold clampFeature
  split_ifs <;> rfl

/-- Settles O30: by the definitions' cases; the upper bounds are those of the type of counts. -/
theorem countsAreClamped : Obligations.CountsAreClamped := fun n =>
  ⟨clampDigits_val n, clampFeature_val n, one_le_clampDigits n, Nat.le_of_lt_succ (clampDigits n).isLt,
    Nat.le_of_lt_succ (clampFeature n).isLt⟩

/-! ### Display control (R174, R176) -/

/-- Settles O33: the request is one command frame. -/
theorem displayOffSendsItsCommand : Obligations.DisplayOffSendsItsCommand :=
  ⟨rfl, sequencerContract_of_framed (fun _ => rfl) (fun _ h => absurd trivial h) (fun _ => ⟨rfl, rfl, rfl⟩)
    (fun _ hs => hs) fun s _ => sendCommand_eq _ s⟩

/-- R97: the three low bits of the level are the field of the display-on command. -/
theorem dispOn_byte (level : Byte) : (WireCmd.dispOn (level.setWidth 3)).byte = 0x88#8 ||| (level &&& 0x07#8) := by
  revert level
  decide

theorem brightness_eq (level : Byte) (s : State) :
    brightness level s = framed { s with bright := level.setWidth 3 } (.ok ()
      { s with bright := level.setWidth 3, wire := s.wire.emits (commandEvents (0x88#8 ||| (level &&& 0x07#8))) }) := by
  rw [brightness, sendCommand_eq, dispOn_byte]

/-- Settles O35: the level is written, then one command frame is sent. -/
theorem setBrightnessMasksAndTurnsOn : Obligations.SetBrightnessMasksAndTurnsOn := fun level =>
  ⟨rfl, sequencerContract_of_framed (fun _ => rfl) (fun _ h => absurd trivial h) (fun _ => ⟨rfl, rfl, rfl⟩)
    (fun _ hs => hs) fun s _ => brightness_eq level s⟩

/-! ### One digit, one LED (R179, R185, R186) -/

theorem showDig_eq (k : Index) (b : Byte) (s : State) :
    showDig k b s = framed (s.setDig k b) (.ok () ((s.setDig k b).emits (fixedEvents (segSlot s k) b))) :=
  fixedWrite_eq _ _ _

theorem showGlyph_of_lt {s : State} {k : Index} (h : k.val < s.numDigits.val) (v : Byte) (raw : Bool) :
    showGlyph k.val v raw s = showDig k (mergeSeg s.dig[k] (glyph v raw)) s := by
  simp only [showGlyph, digitIndex_some h]

theorem showGlyph_of_ge {s : State} {d : Nat} (h : s.numDigits.val ≤ d) (v : Byte) (raw : Bool) :
    showGlyph d v raw s = .ok () s := by
  simp only [showGlyph, digitIndex_none h]

theorem showDp_of_lt {s : State} {k : Index} (h : k.val < s.numDigits.val) (on : Bool) :
    showDp k.val on s = showDig k (mergeDp s.dig[k] on) s := by
  simp only [showDp, digitIndex_some h]

theorem showDp_of_ge {s : State} {d : Nat} (h : s.numDigits.val ≤ d) (on : Bool) : showDp d on s = .ok () s := by
  simp only [showDp, digitIndex_none h]

theorem showLed_of_lt {s : State} {k : Index} (h : k.val < s.numLeds.val) (on : Bool) :
    showLed k.val on s =
      framed (s.setLed k on) (.ok () ((s.setLed k on).emits (fixedEvents (ledSlot s k) (ledByte on)))) := by
  simp only [showLed, ledIndex_some h, fixedWrite_eq]
  rfl

theorem showLed_of_ge {s : State} {i : Nat} (h : s.numLeds.val ≤ i) (on : Bool) : showLed i on s = .ok () s := by
  simp only [showLed, ledIndex_none h]

/-- A request that is idle in every state, INIT aside. -/
theorem sequenced_idle {s : State} (hfault : s.fault = none) {i : Instr} {body : State → Sub Unit}
    (hidle : body s = .ok () s) :
    (s.init = true → sequenced i s body = .next s) ∧
    (s.init = false → sequenced i s body = .next (faulted i .notInitialized s)) :=
  ⟨fun hinit => sequenced_ok hfault hinit hidle, fun hinit => sequenced_uninit hfault hinit i body⟩

/-- No count reaches above 8. -/
theorem Count.le_of_ge {n : Count} {d : Nat} (h : 8 ≤ d) : n.val ≤ d := (Nat.le_of_lt_succ n.isLt).trans h

/-- Settles O38: by whether the digit is configured. -/
theorem showCharMergesAndSends : Obligations.ShowCharMergesAndSends := by
  intro d v raw k
  refine ⟨rfl, fun hk => ?_, fun hd s hfault => sequenced_idle hfault (showGlyph_of_ge (Count.le_of_ge hd) v raw)⟩
  refine sequencerContract_of_framed (fun _ => rfl) (fun s h => showGlyph_of_ge (by omega) v raw)
    (fun _ => ⟨rfl, rfl, rfl⟩) (fun _ hs => hs) fun s h => ?_
  rw [← hk, showGlyph_of_lt h]
  exact showDig_eq k _ s

/-- Settles O45: by whether the digit is configured. -/
theorem setDpWritesTheDecimalPoint : Obligations.SetDpWritesTheDecimalPoint := by
  intro d on k
  refine ⟨rfl, fun hk => ?_, fun hd s hfault => sequenced_idle hfault (showDp_of_ge (Count.le_of_ge hd) on)⟩
  refine sequencerContract_of_framed (fun _ => rfl) (fun s h => showDp_of_ge (by omega) on)
    (fun _ => ⟨rfl, rfl, rfl⟩) (fun _ hs => hs) fun s h => ?_
  rw [← hk, showDp_of_lt h]
  exact showDig_eq k _ s

/-- Settles O44: by whether the LED is configured. -/
theorem setLedWritesOneLed : Obligations.SetLedWritesOneLed := by
  intro i on k
  refine ⟨rfl, fun hk => ?_, fun hi s hfault => sequenced_idle hfault (showLed_of_ge (Count.le_of_ge hi) on)⟩
  refine sequencerContract_of_framed (fun _ => rfl) (fun s h => showLed_of_ge (by omega) on)
    (fun _ => ⟨rfl, rfl, rfl⟩) (fun _ hs => hs) fun s h => ?_
  rw [← hk]
  exact showLed_of_lt h on

/-! ### TEST (R177) -/

theorem exec_test (enable : Bool) (s : State) :
    exec (.test enable) s = sequenced (.test enable) s fun s => autoWrite (testBytes enable s) s := rfl

/-- TEST is one auto-increment write, which leaves the shadow. -/
theorem sequencerContract_test (enable : Bool) {bytes : State → List Byte}
    (hbytes : ∀ s, testBytes enable s = bytes s) :
    SequencerContract (.test enable) (fun _ => True) id id (fun s => autoEvents (bytes s)) :=
  sequencerContract_of_framed (exec_test enable) (fun _ h => absurd trivial h) (fun _ => ⟨rfl, rfl, rfl⟩)
    (fun _ hs => hs) fun s _ => hbytes s ▸ autoWrite_eq _ s

theorem testBytes_true (s : State) :
    testBytes true s = (List.replicate (max s.numDigits.val s.numLeds.val) [0xFF#8, 0x01#8]).flatten := by
  rw [testBytes_eq, ← testPositions_length s, List.flatMap_def]
  exact congrArg List.flatten (List.map_const' (l := testPositions s) (b := [0xFF#8, 0x01#8]))

/-- The indices below a count, as the first ones. -/
theorem finRange_take (n : Count) : (List.finRange 8).take n.val = (List.finRange 8).filter fun k => k.val < n.val := by
  revert n
  decide

theorem testBytes_false (s : State) : testBytes false s = restoreBytes s := by
  have htake := finRange_take (max s.numDigits s.numLeds)
  rw [Fin.coe_max] at htake
  rw [testBytes, htake]
  rfl

/-- A permutation puts some digit at each position. -/
theorem Permutation.exists_toNat_eq {dmap : Vector Position 8} (hmap : Permutation dmap) (p : Index) :
    ∃ l : Index, (dmap[l]).toNat = p.val := by
  have hinj : Function.Injective fun l : Index => dmap[l].toFin := fun a b hab => hmap a b (BitVec.eq_of_toFin_eq hab)
  obtain ⟨l, hl⟩ := Finite.surjective_of_injective hinj p
  exact ⟨l, congrArg Fin.val hl⟩

/-- Settles O36: the bytes written are those of the rule, and a permutation has an inverse at every position (log 17). -/
theorem testLightsOrRestoresEveryPosition : Obligations.TestLightsOrRestoresEveryPosition := by
  refine ⟨rfl, rfl, sequencerContract_test true testBytes_true, sequencerContract_test false testBytes_false,
    fun dmap hmap p => ?_⟩
  obtain ⟨l, hl⟩ := hmap.exists_toNat_eq p
  simpa only [inverseMap_self hmap hl] using hl

/-! ### READ_BUTTONS (R187) -/

theorem combineButtons_eq (b0 b1 b2 b3 : Byte) :
    combineButtons b0 b1 b2 b3 = b0 ||| (b1 <<< 1) ||| (b2 <<< 2) ||| (b3 <<< 3) := by
  apply BitVec.eq_of_toNat_eq
  simp [combineButtons]

/-- What READ_BUTTONS does behind the INIT check. -/
def buttonsBody (s : State) : Sub Unit :=
  if s.numButtons.val = 0 then .ok () (s.respond 0x00#8)
  else (keyScan s).bind fun b s => .ok () (s.respond (combineButtons b.1 b.2.1 b.2.2.1 b.2.2.2))

theorem exec_readButtons (s : State) : exec .readButtons s = sequenced .readButtons s buttonsBody := rfl

theorem buttonsBody_none {s : State} (h : s.numButtons.val = 0) : buttonsBody s = .ok () (s.respond 0x00#8) := if_pos h

theorem buttonsBody_some {s : State} (h : s.numButtons.val ≠ 0) :
    buttonsBody s =
      (keyScan s).bind fun b s => .ok () (s.respond (combineButtons b.1 b.2.1 b.2.2.1 b.2.2.2)) := if_neg h

/-- Settles O46: by whether there are buttons; if so the request is one key scan, and the answer combines its draws. -/
theorem readButtonsCombinesFourBytes : Obligations.ReadButtonsCombinesFourBytes := by
  intro s hfault
  rw [exec_readButtons]
  refine ⟨rfl, fun hinit => sequenced_uninit hfault hinit _ _,
    fun hinit hnone => sequenced_ok hfault hinit (buttonsBody_none hnone), fun hready hsome => ?_,
    fun habnormal hsome => ?_⟩
  · rintro b0 b1 b2 b3 rfl rfl rfl rfl
    refine sequenced_ok hfault hready.init ?_
    rw [buttonsBody_some hsome, keyScan_eq, framed_of_ready hready, Sub.bind_ok, combineButtons_eq]
    rfl
  · obtain ⟨-, hinit, hpins, hline⟩ := habnormal
    refine perform_opens hfault ?_ hpins hline
    rw [guarded_init hinit, buttonsBody_some hsome]
    exact Sub.Opens.bind ⟨_, keyScan_eq s⟩ _

end Sys2Proof.Machine
end

section
/-! Proofs of the statements about numbers (O37, O39 to O42). Each request is `showDigits` of a list of values behind a guard, run once by induction on the list: the shadow and the frames after the first value are those of the rest, shown from the next digit on. -/

namespace Sys2Proof.Machine

/-! ### Digits of a value (R180) -/

/-- The n digits of v in base b, most significant first. -/
def baseDigits (b v n : Nat) : List Nat := (List.range n).map fun j => v / b ^ (n - 1 - j) % b

theorem decDigits_eq (v n : Nat) : decDigits v n = baseDigits 10 v n := rfl

theorem hexDigits_eq (v n : Nat) : hexDigits v n = baseDigits 16 v n := by
  refine List.map_congr_left fun j _ => ?_
  rw [Nat.shiftRight_eq_div_pow, pow_mul]
  exact Nat.and_two_pow_sub_one_eq_mod _ 4

/-- The last digit is the value modulo the base; the others are those of the quotient. -/
theorem baseDigits_succ (b v n : Nat) : baseDigits b v (n + 1) = baseDigits b (v / b) n ++ [v % b] := by
  rw [baseDigits, List.range_succ, List.map_append]
  congr 1
  · refine List.map_congr_left fun j hj => ?_
    have hexp : n + 1 - 1 - j = (n - 1 - j) + 1 := by
      have := List.mem_range.mp hj
      omega
    rw [hexp, pow_succ', Nat.div_div_eq_div_mul]
  · simp

theorem baseDigits_length (b v n : Nat) : (baseDigits b v n).length = n := by simp [baseDigits]

theorem lt_of_mem_baseDigits {b v n x : Nat} (hb : 0 < b) (hx : x ∈ baseDigits b v n) : x < b := by
  obtain ⟨j, -, rfl⟩ := List.mem_map.mp hx
  exact Nat.mod_lt _ hb

/-- The digits spell the value, as far as n of them go. -/
theorem foldl_baseDigits (b v n : Nat) : (baseDigits b v n).foldl (fun acc x => b * acc + x) 0 = v % b ^ n := by
  induction n generalizing v with
  | zero => simp [baseDigits, Nat.mod_one]
  | succ n ih => rw [baseDigits_succ, List.foldl_concat, ih, pow_succ', Nat.mod_mul, Nat.add_comm]

theorem baseDigits_spell {b v n : Nat} (hb : 0 < b) (hv : v < b ^ n) :
    (baseDigits b v n).length = n ∧ (∀ x ∈ baseDigits b v n, x < b) ∧
    (baseDigits b v n).foldl (fun acc x => b * acc + x) 0 = v :=
  ⟨baseDigits_length b v n, fun _ => lt_of_mem_baseDigits hb, (foldl_baseDigits b v n).trans (Nat.mod_eq_of_lt hv)⟩

/-- Settles O39: both are the digits in a base, which spell the value by induction on their number. -/
theorem digitsAreThoseOfTheValue : Obligations.DigitsAreThoseOfTheValue :=
  ⟨fun v n hv => decDigits_eq v n ▸ baseDigits_spell (by decide) hv,
    fun v n hv => hexDigits_eq v n ▸ baseDigits_spell (by decide) hv⟩

/-! ### What digits from d on show (R180) -/

theorem digitsShown_getElem (dig : Vector Byte 8) (d : Nat) (L : List Nat) {k : Nat} (hk : k < 8) :
    (digitsShown dig d L)[k] =
      if d ≤ k ∧ k < d + L.length then mergeSeg dig[k] (segEncode (BitVec.ofNat 8 (L.getD (k - d) 0))) else dig[k] :=
  Vector.getElem_ofFn hk

@[simp] theorem digitsShown_nil (dig : Vector Byte 8) (d : Nat) : digitsShown dig d [] = dig := by
  refine Vector.ext fun k hk => ?_
  rw [digitsShown_getElem dig d [] hk, if_neg (by simp)]

/-- The byte of digit k once it shows value v. -/
def shownByte (dig : Vector Byte 8) (k : Index) (v : Nat) : Byte := mergeSeg dig[k] (segEncode (BitVec.ofNat 8 v))

theorem digitsShown_cons (dig : Vector Byte 8) (k : Index) (v : Nat) (vs : List Nat) :
    digitsShown dig k.val (v :: vs) = digitsShown (dig.set k.val (shownByte dig k v)) (k.val + 1) vs := by
  refine Vector.ext fun j hj => ?_
  rw [digitsShown_getElem _ _ _ hj, digitsShown_getElem _ _ _ hj, Vector.getElem_set]
  rcases Nat.lt_trichotomy j k.val with hlt | rfl | hgt
  · rw [if_neg (by omega), if_neg (by omega), if_neg (by omega)]
  · simp [shownByte]
  · obtain ⟨n, rfl⟩ := Nat.exists_eq_add_of_lt hgt
    simp [Nat.add_assoc, Nat.add_comm 1, Nat.add_sub_add_left]

theorem digitsShown_cons_self (dig : Vector Byte 8) (k : Index) (v : Nat) (vs : List Nat) :
    (digitsShown dig k.val (v :: vs))[k] = shownByte dig k v := by
  show (digitsShown dig k.val (v :: vs))[k.val] = _
  rw [digitsShown_getElem _ _ _ k.isLt, if_pos (by simp)]
  simp [shownByte]

/-- The indices of an interval, its first one apart. -/
theorem finRange_filter_cons (k : Index) (n : Nat) :
    ((List.finRange 8).filter fun j => k.val ≤ j.val && j.val < k.val + (n + 1)) =
      k :: (List.finRange 8).filter fun j => k.val + 1 ≤ j.val && j.val < k.val + 1 + n := by
  have hsorted : (List.finRange 8).Pairwise (· < ·) := (List.sortedLT_finRange 8).pairwise
  refine (hsorted.filter _).eq_of_mem_iff (List.pairwise_cons.mpr ⟨fun j hj => ?_, hsorted.filter _⟩) fun j => ?_
  · simp only [List.mem_filter, Bool.and_eq_true, decide_eq_true_eq] at hj
    omega
  · simp only [List.mem_cons, List.mem_filter, List.mem_finRange, true_and, Bool.and_eq_true, decide_eq_true_eq]
    omega

theorem digitsEvents_nil (s : State) (d : Nat) : digitsEvents s d [] = [] := by
  have hnone : ((List.finRange 8).filter fun k => d ≤ k.val && k.val < d + ([] : List Nat).length) = [] :=
    List.filter_eq_nil_iff.mpr fun k _ => by simp
  rw [digitsEvents, hnone]
  rfl

theorem digitsEvents_cons (s : State) (k : Index) (v : Nat) (vs : List Nat) :
    digitsEvents s k.val (v :: vs) = fixedEvents (segSlot s k) (shownByte s.dig k v) ++
      digitsEvents (s.setDig k (shownByte s.dig k v)) (k.val + 1) vs := by
  rw [digitsEvents, List.length_cons, finRange_filter_cons, List.flatMap_cons, digitsShown_cons_self,
    digitsShown_cons]
  rfl

/-! ### `showDigits` (R180) -/

theorem showDigits_cons {s : State} {k : Index} (h : k.val < s.numDigits.val) (v : Nat) (vs : List Nat) :
    showDigits k.val (v :: vs) s =
      (showDig k (shownByte s.dig k v) s).bind fun _ s => showDigits (k.val + 1) vs s := by
  rw [showDigits, showGlyph_of_lt h]
  rfl

theorem showDig_of_ready {s : State} (h : s.Ready) (k : Index) (b : Byte) :
    showDig k b s = .ok () ((s.setDig k b).emits (fixedEvents (segSlot s k) b)) := by
  rw [showDig_eq]
  exact framed_of_ready (s := s.setDig k b) h _

/-- The state after values L are shown from digit d on. -/
def State.showing (s : State) (d : Nat) (L : List Nat) : State :=
  { s with dig := digitsShown s.dig d L, wire := s.wire.emits (digitsEvents s d L) }

theorem State.showing_nil (s : State) (d : Nat) : s.showing d [] = s := by
  simp [State.showing, digitsEvents_nil]

theorem State.showing_cons (s : State) (k : Index) (v : Nat) (vs : List Nat) :
    s.showing k.val (v :: vs) =
      ((s.setDig k (shownByte s.dig k v)).emits (fixedEvents (segSlot s k) (shownByte s.dig k v))).showing
        (k.val + 1) vs := by
  rw [State.showing, digitsShown_cons, digitsEvents_cons, Wire.emits_append]
  rfl

theorem showDigits_of_ready {L : List Nat} {d : Nat} {s : State} (hs : s.Ready)
    (hd : d + L.length ≤ s.numDigits.val) : showDigits d L s = .ok () (s.showing d L) := by
  induction L generalizing d s with
  | nil => rw [State.showing_nil]; rfl
  | cons v vs ih =>
    have hcount := s.numDigits.isLt
    rw [List.length_cons] at hd
    obtain ⟨k, rfl⟩ : ∃ k : Index, d = k.val := ⟨⟨d, by omega⟩, rfl⟩
    rw [showDigits_cons (by omega), showDig_of_ready hs, Sub.bind_ok, State.showing_cons]
    refine ih hs ?_
    show k.val + 1 + vs.length ≤ s.numDigits.val
    omega

theorem showDigits_opens {s : State} {d : Nat} (hd : d < s.numDigits.val) {L : List Nat} (hL : L ≠ []) :
    (showDigits d L s).Opens (firstDigitShown s d L) := by
  cases L with
  | nil => exact absurd rfl hL
  | cons v vs =>
    have hcount := s.numDigits.isLt
    obtain ⟨k, rfl⟩ : ∃ k : Index, d = k.val := ⟨⟨d, by omega⟩, rfl⟩
    have hfirst : firstDigitShown s k.val (v :: vs) = s.setDig k (shownByte s.dig k v) := by
      simp [firstDigitShown, digitsShown_cons, State.setDig]
    rw [showDigits_cons hd, hfirst]
    exact Sub.Opens.bind ⟨_, showDig_eq k _ s⟩ _

/-- A request that shows values L from digit d on where `sends`, and is idle elsewhere. -/
theorem numberContract_of_showDigits {i : Instr} {body : State → Sub Unit} {d : Nat} {L : List Nat}
    {sends : State → Prop} (hexec : ∀ s, exec i s = sequenced i s body) (hL : L ≠ [])
    (hidle : ∀ s, ¬ sends s → body s = .ok () s) (hshow : ∀ s, sends s → body s = showDigits d L s)
    (hfits : ∀ s, sends s → d + L.length ≤ s.numDigits.val) : NumberContract i d L sends := by
  refine sequencerContract_of_opens hexec hidle (fun _ => ⟨rfl, rfl, rfl⟩) (fun s hsends => ?_)
    fun s hready hsends => ?_
  · have hlen := List.length_pos_iff.mpr hL
    have hfits := hfits s hsends
    rw [hshow s hsends]
    exact showDigits_opens (by omega) hL
  · rw [hshow s hsends]
    exact showDigits_of_ready hready (hfits s hsends)

/-! ### Bytes (R178) -/

/-- Eight rounds of SHOW_CHAR are `showDigits` of the eight bits. -/
theorem showByteBinary_eq (v : Byte) (lsbFirst : Bool) (s : State) :
    Sub.each (fun k s => showGlyph k (BitVec.ofNat 8 (orderedBit v lsbFirst k).toNat) false s) (List.range 8) s =
      showDigits 0 ((List.range 8).map fun k => (orderedBit v lsbFirst k).toNat) s := rfl

theorem numberContract_showByteBinary (v : Byte) (lsbFirst : Bool) :
    NumberContract (.showByteBinary v lsbFirst) 0 ((List.range 8).map fun k => (orderedBit v lsbFirst k).toNat)
      (fun s => 8 ≤ s.numDigits.val) :=
  numberContract_of_showDigits (fun _ => rfl) nofun (fun _ h => if_pos (Nat.not_le.mp h))
    (fun s h => (if_neg (Nat.not_lt.mpr h)).trans (showByteBinary_eq v lsbFirst s)) fun _ h => h

/-- Settles O37: the bits in either order are a list of eight values. -/
theorem showByteBinaryShowsEightBits : Obligations.ShowByteBinaryShowsEightBits := fun v =>
  ⟨rfl, rfl, numberContract_showByteBinary v true, numberContract_showByteBinary v false⟩

/-! ### Numbers (R181 to R183) -/

/-- A request of n digits, a no-op unless all of them are configured. -/
theorem numberContract_of_showNumber {i : Instr} {d n : Nat} {L digits : List Nat}
    (hexec : ∀ s, exec i s = sequenced i s (showNumber d n digits)) (hdigits : digits = L) (hlen : L.length = n)
    (hn : 0 < n) :
    NumberContract i d L (fun s => n - 1 < s.numDigits.val ∧ d + (n - 1) < s.numDigits.val) := by
  subst hdigits
  exact numberContract_of_showDigits hexec (List.ne_nil_of_length_pos (hlen ▸ hn)) (fun _ h => if_neg h)
    (fun _ h => if_pos h) fun _ h => by omega

/-- A U16 operand as its two bytes (R92). -/
theorem half_toNat (v : Half) : v.toNat = (lowByte v).toNat + 256 * (highByte v).toNat := by
  rw [← u16Operand_toNat, u16Operand_bytes]

/-- Settles O40: two digits; a byte has no more in hexadecimal. -/
theorem showInt8ShowsTwoDigits : Obligations.ShowInt8ShowsTwoDigits := by
  intro d v
  refine ⟨rfl, rfl, numberContract_of_showNumber (n := 2) (fun _ => rfl) ?_ rfl (by decide),
    numberContract_of_showNumber (n := 2) (fun _ => rfl) ?_ rfl (by decide)⟩
  · simp [decDigits, List.range_succ]
  · have hv := v.isLt
    have hhigh : v.toNat / 16 % 16 = v.toNat / 16 := Nat.mod_eq_of_lt (by omega)
    simp [hexDigits_eq, baseDigits, List.range_succ, hhigh]

/-- Settles O41: three digits. -/
theorem showInt12ShowsThreeDigits : Obligations.ShowInt12ShowsThreeDigits := by
  intro d v
  refine ⟨⟨lowByte v, highByte v, half_toNat v, rfl, rfl⟩,
    numberContract_of_showNumber (n := 3) (fun _ => rfl) ?_ rfl (by decide),
    numberContract_of_showNumber (n := 3) (fun _ => rfl) ?_ rfl (by decide)⟩
  · simp [decDigits, List.range_succ]
  · simp [hexDigits_eq, baseDigits, List.range_succ]

/-- Settles O42: four digits; a U16 has no more in hexadecimal. -/
theorem showInt16ShowsFourDigits : Obligations.ShowInt16ShowsFourDigits := by
  intro d v
  refine ⟨⟨lowByte v, highByte v, half_toNat v, rfl, rfl⟩,
    numberContract_of_showNumber (n := 4) (fun _ => rfl) ?_ rfl (by decide),
    numberContract_of_showNumber (n := 4) (fun _ => rfl) ?_ rfl (by decide)⟩
  · simp [decDigits, List.range_succ]
  · have hv := v.isLt
    have hhigh : v.toNat / 4096 % 16 = v.toNat / 4096 := Nat.mod_eq_of_lt (by omega)
    simp [hexDigits_eq, baseDigits, List.range_succ, hhigh]

end Sys2Proof.Machine
end

section
/-! Proofs of the statements about loops (O34, O43) and of BEGIN (O31, O32). A loop over the indices below a number is followed by the state it has reached after n rounds (`Sub.each_range`), which for both loops has the shadow and the frames of the indices below n done. -/

namespace Sys2Proof.Machine

/-! ### Loops (R11) -/

theorem Sub.each_append {α : Type} (f : α → State → Sub Unit) (xs ys : List α) (s : State) :
    Sub.each f (xs ++ ys) s = (Sub.each f xs s).bind fun _ t => Sub.each f ys t := by
  induction xs generalizing s with
  | nil => rfl
  | cons x xs ih =>
    rw [List.cons_append, Sub.each_cons, Sub.each_cons]
    cases f x s with
    | ok a t => exact ih t
    | raise c t => rfl

/-- A loop whose n-th round takes state n to state n + 1. -/
theorem Sub.each_range {f : Nat → State → Sub Unit} {states : Nat → State} {N : Nat}
    (hround : ∀ n < N, f n (states n) = .ok () (states (n + 1))) :
    Sub.each f (List.range N) (states 0) = .ok () (states N) := by
  induction N with
  | zero => rfl
  | succ N ih =>
    rw [List.range_succ, Sub.each_append, ih fun n hn => hround n (hn.trans N.lt_succ_self), Sub.bind_ok,
      Sub.each_cons, hround N N.lt_succ_self]
    rfl

/-- A loop of at least one round opens a frame where its first round does. -/
theorem Sub.Opens.each_range {f : Nat → State → Sub Unit} {N : Nat} (hN : N ≠ 0) {s u : State}
    (h : (f 0 s).Opens u) : (Sub.each f (List.range N) s).Opens u := by
  obtain ⟨n, rfl⟩ := Nat.exists_eq_succ_of_ne_zero hN
  rw [List.range_succ_eq_map, Sub.each_cons]
  exact h.bind _

/-- The indices below n. -/
def indicesBelow (n : Nat) : List Index := (List.finRange 8).filter fun k => k.val < n

theorem indicesBelow_zero : indicesBelow 0 = [] := rfl

theorem indicesBelow_eight : indicesBelow 8 = List.finRange 8 := by decide

theorem indicesBelow_succ (k : Index) : indicesBelow (k.val + 1) = indicesBelow k.val ++ [k] := by
  revert k
  decide

/-- The bits of a mask from n on. -/
theorem highMask_getLsbD (n : Nat) {k : Nat} (hk : k < 8) : (0xFF#8 <<< n).getLsbD k = decide (n ≤ k) := by
  have hones : (0xFF#8).getLsbD (k - n) = true := by
    have hlt : k - n < 8 := by omega
    have hall : (0xFF#8) = BitVec.allOnes 8 := rfl
    rw [hall, BitVec.getLsbD_allOnes, decide_eq_true hlt]
  rw [BitVec.getLsbD_shiftLeft, hones]
  by_cases h : k < n <;> simp [hk, h, Nat.not_le.mpr, Nat.le_of_not_lt]

/-! ### SHOW_LEDS_BINARY (R184) -/

/-- Mask m with its bits below n those of w. -/
def maskBelow (w m : Byte) (n : Nat) : Byte := (m &&& 0xFF#8 <<< n) ||| (w &&& ~~~(0xFF#8 <<< n))

theorem maskBelow_getLsbD (w m : Byte) (n : Nat) {k : Nat} (hk : k < 8) :
    (maskBelow w m n).getLsbD k = if k < n then w.getLsbD k else m.getLsbD k := by
  rw [maskBelow, BitVec.getLsbD_or, BitVec.getLsbD_and, BitVec.getLsbD_and, BitVec.getLsbD_not, highMask_getLsbD n hk]
  by_cases h : k < n <;> simp [h, hk, Nat.not_le.mpr, Nat.le_of_not_lt]

theorem maskBelow_zero (w m : Byte) : maskBelow w m 0 = m :=
  BitVec.eq_of_getLsbD_eq fun _ hk => (maskBelow_getLsbD w m 0 hk).trans (if_neg (Nat.not_lt_zero _))

theorem maskBelow_eight (w m : Byte) : maskBelow w m 8 = w :=
  BitVec.eq_of_getLsbD_eq fun _ hk => (maskBelow_getLsbD w m 8 hk).trans (if_pos hk)

theorem setBit_maskBelow (w m : Byte) (k : Index) :
    setBit (maskBelow w m k.val) k (w.getLsbD k.val) = maskBelow w m (k.val + 1) := by
  refine BitVec.eq_of_getLsbD_eq fun j hj => ?_
  rw [setBit_getLsbD _ _ _ hj, maskBelow_getLsbD _ _ _ hj, maskBelow_getLsbD _ _ _ hj]
  rcases Nat.lt_trichotomy j k.val with hlt | rfl | hgt
  · rw [if_neg (by omega), if_pos hlt, if_pos (by omega)]
  · rw [if_pos rfl, if_pos (by omega)]
  · rw [if_neg (by omega), if_neg (by omega), if_neg (by omega)]

/-- The state after the LEDs below n are set from mask w. -/
def State.ledsBelow (s : State) (w : Byte) (n : Nat) : State :=
  { s with
    ledm := maskBelow w s.ledm n
    wire := s.wire.emits ((indicesBelow n).flatMap fun k => fixedEvents (ledSlot s k) (ledByte (w.getLsbD k.val))) }

theorem State.ledsBelow_zero (s : State) (w : Byte) : s.ledsBelow w 0 = s := by
  simp [State.ledsBelow, maskBelow_zero, indicesBelow_zero]

theorem showLed_of_ready {s : State} (hs : s.Ready) {k : Index} (h : k.val < s.numLeds.val) (on : Bool) :
    showLed k.val on s = .ok () ((s.setLed k on).emits (fixedEvents (ledSlot s k) (ledByte on))) := by
  rw [showLed_of_lt h]
  exact framed_of_ready (s := s.setLed k on) hs _

/-- Round k sets LED k. -/
theorem showLed_ledsBelow {s : State} (hs : s.Ready) {k : Index} (h : k.val < s.numLeds.val) (w : Byte) :
    showLed k.val (w.getLsbD k.val) (s.ledsBelow w k.val) = .ok () (s.ledsBelow w (k.val + 1)) := by
  rw [showLed_of_ready (s := s.ledsBelow w k.val) hs h]
  simp only [State.ledsBelow, State.setLed, State.emits, setBit_maskBelow, indicesBelow_succ, List.flatMap_append,
    Wire.emits_append, List.flatMap_singleton]
  rfl

/-- The mask SHOW_LEDS_BINARY shows: v, or v with its bits reversed. -/
def orderedMask (v : Byte) (lsbFirst : Bool) : Byte := if lsbFirst then v else v.reverse

theorem orderedMask_getLsbD (v : Byte) (lsbFirst : Bool) {k : Nat} (hk : k < 8) :
    (orderedMask v lsbFirst).getLsbD k = orderedBit v lsbFirst k := by
  cases lsbFirst with
  | true => rfl
  | false =>
    rw [orderedMask, if_neg (by decide), BitVec.getLsbD_reverse, BitVec.getMsbD, decide_eq_true hk]
    rfl

/-- What SHOW_LEDS_BINARY does when it sends. -/
def ledsLoop (v : Byte) (lsbFirst : Bool) : State → Sub Unit :=
  Sub.each (fun k s => showLed k (orderedBit v lsbFirst k) s) (List.range 8)

theorem exec_showLedsBinary (v : Byte) (lsbFirst : Bool) (s : State) :
    exec (.showLedsBinary v lsbFirst) s = sequenced (.showLedsBinary v lsbFirst) s fun s =>
      if s.numLeds.val < 8 then .ok () s else ledsLoop v lsbFirst s := rfl

theorem ledsLoop_of_ready (v : Byte) (lsbFirst : Bool) {s : State} (hs : s.Ready) (h : 8 ≤ s.numLeds.val) :
    ledsLoop v lsbFirst s = .ok () (s.ledsBelow (orderedMask v lsbFirst) 8) := by
  have hround : ∀ n < 8, showLed n (orderedBit v lsbFirst n) (s.ledsBelow (orderedMask v lsbFirst) n) =
      .ok () (s.ledsBelow (orderedMask v lsbFirst) (n + 1)) := by
    intro n hn
    rw [← orderedMask_getLsbD v lsbFirst hn]
    exact showLed_ledsBelow (k := ⟨n, hn⟩) hs (hn.trans_le h) _
  simpa [ledsLoop, State.ledsBelow_zero] using Sub.each_range (states := s.ledsBelow (orderedMask v lsbFirst)) hround

/-- Settles O43: the loop of eight rounds, followed by the mask it has reached. -/
theorem showLedsBinarySetsEightLeds : Obligations.ShowLedsBinarySetsEightLeds := by
  intro v lsbFirst
  refine ⟨rfl, sequencerContract_of_opens (exec_showLedsBinary v lsbFirst) (fun _ h => if_pos (Nat.not_le.mp h))
    (fun _ => ⟨rfl, rfl, rfl⟩) (fun s h => ?_) fun s hs h => ?_⟩
  · rw [if_neg (Nat.not_lt.mpr h)]
    exact Sub.Opens.each_range (by decide) ⟨_, showLed_of_lt (k := 0) (Nat.lt_of_lt_of_le (by decide) h) _⟩
  · rw [if_neg (Nat.not_lt.mpr h), ledsLoop_of_ready v lsbFirst hs h, State.ledsBelow, maskBelow_eight,
      indicesBelow_eight]
    have hbits : ∀ k : Index, (orderedMask v lsbFirst).getLsbD k.val = orderedBit v lsbFirst k.val :=
      fun k => orderedMask_getLsbD v lsbFirst k.isLt
    simp only [hbits]
    rfl

/-! ### CLEAR (R175) -/

/-- The frames of one round of CLEAR. -/
def clearDigitEvents (s : State) (k : Index) : List Event :=
  (if k.val < s.numLeds.val then fixedEvents (ledSlot s k) 0x00#8 else []) ++
    fixedEvents (segSlot s k) (s.dig[k] &&& 0x80#8) ++ fixedEvents (segSlot s k) 0x00#8

/-- The LED mask after one round of CLEAR. -/
def clearedLed (s : State) (k : Index) : Byte := if k.val < s.numLeds.val then setBit s.ledm k false else s.ledm

theorem mergeSeg_blank (b : Byte) : mergeSeg b (glyph 0x00#8 true) = b &&& 0x80#8 := by
  simp [mergeSeg, glyph, rawEncode]

theorem mergeDp_blank (b : Byte) : mergeDp (b &&& 0x80#8) false = 0x00#8 := by
  simp [mergeDp, BitVec.and_assoc]

theorem showLed_clear {s : State} (hs : s.Ready) (k : Index) :
    showLed k.val false s = .ok () ({ s with ledm := clearedLed s k }.emits
      (if k.val < s.numLeds.val then fixedEvents (ledSlot s k) 0x00#8 else [])) := by
  by_cases h : k.val < s.numLeds.val
  · rw [showLed_of_ready hs h, clearedLed, if_pos h, if_pos h]
    rfl
  · rw [showLed_of_ge (Nat.le_of_not_lt h), clearedLed, if_neg h, if_neg h]
    rfl

theorem showGlyph_of_ready {s : State} (hs : s.Ready) {k : Index} (h : k.val < s.numDigits.val) (v : Byte)
    (raw : Bool) : showGlyph k.val v raw s = .ok () ((s.setDig k (mergeSeg s.dig[k] (glyph v raw))).emits
      (fixedEvents (segSlot s k) (mergeSeg s.dig[k] (glyph v raw)))) := by
  rw [showGlyph_of_lt h, showDig_of_ready hs]

theorem showDp_of_ready {s : State} (hs : s.Ready) {k : Index} (h : k.val < s.numDigits.val) (on : Bool) :
    showDp k.val on s = .ok () ((s.setDig k (mergeDp s.dig[k] on)).emits
      (fixedEvents (segSlot s k) (mergeDp s.dig[k] on))) := by
  rw [showDp_of_lt h, showDig_of_ready hs]

theorem clearDigit_of_ready {s : State} (hs : s.Ready) {k : Index} (h : k.val < s.numDigits.val) :
    clearDigit k.val s = .ok () { s with
      dig := s.dig.set k.val 0x00#8
      ledm := clearedLed s k
      wire := s.wire.emits (clearDigitEvents s k) } := by
  rw [clearDigit, showLed_clear hs, Sub.bind_ok, showGlyph_of_ready (by exact hs) (by exact h), Sub.bind_ok,
    mergeSeg_blank, showDp_of_ready (by exact hs) (by exact h)]
  have hself : ∀ (dig : Vector Byte 8) (b : Byte), (dig.set k.val b)[k] = b :=
    fun dig b => Vector.getElem_set_self k.isLt
  simp only [State.emits, State.setDig, hself, mergeDp_blank, clearDigitEvents, Wire.emits_append, Vector.set_set]
  rfl

/-- The state after the rounds of CLEAR below n. -/
def State.clearedBelow (s : State) (n : Nat) : State :=
  { s with
    dig := Vector.ofFn fun k : Index => if k.val < n then 0x00#8 else s.dig[k]
    ledm := s.ledm &&& (0xFF#8 <<< min n s.numLeds.val)
    wire := s.wire.emits ((indicesBelow n).flatMap (clearDigitEvents s)) }

theorem State.clearedBelow_zero (s : State) : s.clearedBelow 0 = s := by
  have hdig : (Vector.ofFn fun k : Index => if k.val < 0 then 0x00#8 else s.dig[k]) = s.dig :=
    Vector.ext fun k hk => by simp
  have hledm : s.ledm &&& (0xFF#8 <<< min 0 s.numLeds.val) = s.ledm := by
    rw [Nat.zero_min]
    exact BitVec.and_allOnes
  rw [State.clearedBelow, hdig, hledm]
  rfl

theorem State.clearedBelow_numDigits (s : State) :
    s.clearedBelow s.numDigits.val = { cleared s with wire := s.wire.emits (clearEvents s) } := rfl

theorem State.clearedBelow_dig_getElem (s : State) (n : Nat) {j : Nat} (hj : j < 8) :
    (s.clearedBelow n).dig[j] = if j < n then 0x00#8 else s.dig[j] := Vector.getElem_ofFn hj

theorem State.clearedBelow_ledm_getLsbD (s : State) (n : Nat) {j : Nat} (hj : j < 8) :
    (s.clearedBelow n).ledm.getLsbD j = (s.ledm.getLsbD j && decide (min n s.numLeds.val ≤ j)) :=
  (BitVec.getLsbD_and ..).trans (congrArg _ (highMask_getLsbD _ hj))

theorem State.clearedBelow_succ_dig (s : State) (k : Index) :
    (s.clearedBelow k.val).dig.set k.val 0x00#8 = (s.clearedBelow (k.val + 1)).dig := by
  refine Vector.ext fun j hj => ?_
  rw [Vector.getElem_set, State.clearedBelow_dig_getElem s _ hj, State.clearedBelow_dig_getElem s _ hj]
  rcases Nat.lt_trichotomy j k.val with hlt | rfl | hgt
  · rw [if_neg (by omega), if_pos hlt, if_pos (by omega)]
  · rw [if_pos rfl, if_pos (by omega)]
  · rw [if_neg (by omega), if_neg (by omega), if_neg (by omega)]

theorem clearedLed_clearedBelow (s : State) (k : Index) :
    clearedLed (s.clearedBelow k.val) k = (s.clearedBelow (k.val + 1)).ledm := by
  unfold clearedLed
  refine BitVec.eq_of_getLsbD_eq fun j hj => ?_
  rw [State.clearedBelow_ledm_getLsbD s _ hj]
  split
  next hled =>
    have hk : k.val < s.numLeds.val := hled
    rw [setBit_getLsbD _ _ _ hj, State.clearedBelow_ledm_getLsbD s _ hj, Nat.min_eq_left hk.le, Nat.min_eq_left hk]
    by_cases hjk : j = k.val
    · simp [hjk]
    · have hle : k.val ≤ j ↔ k.val + 1 ≤ j := by omega
      rw [if_neg hjk, decide_eq_decide.mpr hle]
  next hled =>
    have hk : ¬ k.val < s.numLeds.val := hled
    rw [State.clearedBelow_ledm_getLsbD s _ hj, Nat.min_eq_right (by omega), Nat.min_eq_right (by omega)]

/-- Round k reads digit k, which the rounds before it have left. -/
theorem clearDigitEvents_clearedBelow (s : State) (k : Index) :
    clearDigitEvents (s.clearedBelow k.val) k = clearDigitEvents s k := by
  have hdig : (s.clearedBelow k.val).dig[k] = s.dig[k] :=
    (s.clearedBelow_dig_getElem k.val k.isLt).trans (if_neg (Nat.lt_irrefl _))
  rw [clearDigitEvents, hdig]
  rfl

/-- Round k clears digit k and its LED. -/
theorem clearDigit_clearedBelow {s : State} (hs : s.Ready) {k : Index} (h : k.val < s.numDigits.val) :
    clearDigit k.val (s.clearedBelow k.val) = .ok () (s.clearedBelow (k.val + 1)) := by
  have hwire : (s.clearedBelow k.val).wire.emits (clearDigitEvents s k) = (s.clearedBelow (k.val + 1)).wire := by
    simp [State.clearedBelow, indicesBelow_succ, Wire.emits_append]
  rw [clearDigit_of_ready (s := s.clearedBelow k.val) hs h, State.clearedBelow_succ_dig, clearedLed_clearedBelow,
    clearDigitEvents_clearedBelow, hwire]
  rfl

theorem clearAll_of_ready {s : State} (hs : s.Ready) :
    clearAll s = .ok () { cleared s with wire := s.wire.emits (clearEvents s) } := by
  have hround : ∀ n < s.numDigits.val, clearDigit n (s.clearedBelow n) = .ok () (s.clearedBelow (n + 1)) := by
    intro n hn
    have hcount := s.numDigits.isLt
    exact clearDigit_clearedBelow (k := ⟨n, by omega⟩) hs hn
  rw [← State.clearedBelow_numDigits]
  simpa [clearAll, State.clearedBelow_zero] using Sub.each_range (states := s.clearedBelow) hround

theorem clearDigit_opens {s : State} (h : s.numDigits.val ≠ 0) :
    (clearDigit (0 : Index).val s).Opens (clearStarted s) := by
  by_cases hleds : s.numLeds.val = 0
  · rw [clearDigit, showLed_of_ge (by omega), Sub.bind_ok, clearStarted, if_pos hleds,
      showGlyph_of_lt (k := 0) (Nat.pos_of_ne_zero h), mergeSeg_blank]
    exact Sub.Opens.bind ⟨_, showDig_eq 0 _ s⟩ _
  · rw [clearDigit, clearStarted, if_neg hleds]
    exact Sub.Opens.bind ⟨_, showLed_of_lt (k := 0) (Nat.pos_of_ne_zero hleds) false⟩ _

theorem clearAll_opens {s : State} (h : s.numDigits.val ≠ 0) : (clearAll s).Opens (clearStarted s) :=
  Sub.Opens.each_range h (clearDigit_opens h)

theorem State.sameLines_clearStarted (s : State) : s.SameLines (clearStarted s) := by
  unfold clearStarted
  split <;> exact ⟨rfl, rfl, rfl⟩

/-- Settles O34: the loop, followed by the digits it has cleared. -/
theorem clearBlanksTheConfiguredDigits : Obligations.ClearBlanksTheConfiguredDigits := by
  refine ⟨rfl, sequencerContract_of_opens (fun _ => rfl) (fun s h => ?_) State.sameLines_clearStarted
    (fun _ => clearAll_opens) fun _ hs _ => clearAll_of_ready hs⟩
  rw [clearAll, not_not.mp h]
  rfl

/-! ### BEGIN and BEGIN_MAP (R171, R172) -/

theorem begin_eq (nb nl nd br : Byte) (dmap : Vector Position 8) (s : State) :
    begin_ nb nl nd br dmap s = (clearAll (begun nb nl nd dmap s)).bind fun _ s => brightness br s := rfl

theorem begun_ready {s : State} (hfault : s.fault = none) (hframe : s.inFrame = false) (nb nl nd : Byte)
    (dmap : Vector Position 8) : (begun nb nl nd dmap s).Ready := ⟨hfault, rfl, rfl, hframe, rfl⟩

theorem begin_completes {s : State} (hfault : s.fault = none) (hframe : s.inFrame = false) (nb nl nd br : Byte)
    (dmap : Vector Position 8) : begin_ nb nl nd br dmap s = .ok () (beginDone nb nl nd br dmap s) := by
  have hready := begun_ready hfault hframe nb nl nd dmap
  rw [begin_eq, clearAll_of_ready hready, Sub.bind_ok, brightness_eq, framed_of_ready (by exact hready), beginDone,
    Wire.emits_append, Wire.emits_append]
  rfl

/-- With a frame open, BEGIN faults in the first frame of CLEAR, which it reaches since it has configured a digit. -/
theorem perform_begin_nested {s : State} (hfault : s.fault = none) (hframe : s.inFrame = true) (i : Instr)
    (nb nl nd br : Byte) (dmap : Vector Position 8) :
    perform i s (begin_ nb nl nd br dmap) = .next (faulted i .frameNest (clearStarted (begun nb nl nd dmap s))) := by
  have hdigit : (begun nb nl nd dmap s).numDigits.val ≠ 0 := Nat.one_le_iff_ne_zero.mp (one_le_clampDigits nd)
  obtain ⟨hpins, hframe', -⟩ := State.sameLines_clearStarted (begun nb nl nd dmap s)
  have hnested : (clearStarted (begun nb nl nd dmap s)).inFrame = true := hframe'.trans hframe
  have hopens : (begin_ nb nl nd br dmap s).Opens (clearStarted (begun nb nl nd dmap s)) := by
    rw [begin_eq]
    exact (clearAll_opens hdigit).bind _
  rw [perform_opens hfault hopens hpins (.inl hnested), firstFrameFault, if_pos hnested]

/-- Settles O31: by whether a frame is open. -/
theorem beginConfiguresAndClears : Obligations.BeginConfiguresAndClears := by
  intro s nb nl nd br hfault
  exact ⟨rfl, fun hframe => perform_ok hfault (begin_completes hfault hframe nb nl nd br identityMap),
    fun hframe => perform_begin_nested hfault hframe _ nb nl nd br identityMap⟩

theorem suppliedMap_isSome {map : List Byte} (hlen : map.length = 8) (hbelow : ∀ m ∈ map, m.toNat < 8)
    (hnodup : map.Nodup) : ∃ dmap, suppliedMap map = some dmap := by
  match map, hlen with
  | [m0, m1, m2, m3, m4, m5, m6, m7], _ =>
    refine ⟨_, if_pos ?_⟩
    simpa only [Bool.and_eq_true, List.all_eq_true, decide_eq_true_eq] using ⟨hbelow, hnodup⟩

/-- A permutation is accepted as the digit map that it lists. -/
theorem suppliedMap_of_permutation {map : List Byte} (hlen : map.length = 8) (hbelow : ∀ m ∈ map, m.toNat < 8)
    (hnodup : map.Nodup) {dmap : Vector Position 8} (hentry : ∀ l : Index, some ((dmap[l]).setWidth 8) = map[l.val]?) :
    suppliedMap map = some dmap := by
  obtain ⟨dmap', hdmap'⟩ := suppliedMap_isSome hlen hbelow hnodup
  obtain ⟨-, -, hlen', hentry'⟩ := suppliedMap_eq_some hdmap'
  rw [hdmap']
  refine congrArg some (Vector.ext fun l hl => ?_)
  have hsupplied := hentry' ⟨l, hl⟩
  have hlisted := hentry ⟨l, hl⟩
  rw [List.getElem?_eq_getElem (by omega), Option.some_inj] at hlisted
  rw [← hlisted] at hsupplied
  simpa using hsupplied

theorem suppliedMap_eq_none {map : List Byte} (h : ¬ ((∀ m ∈ map, m.toNat < 8) ∧ map.Nodup)) :
    suppliedMap map = none := by
  cases hmap : suppliedMap map with
  | none => rfl
  | some dmap =>
    obtain ⟨hbelow, hnodup, -⟩ := suppliedMap_eq_some hmap
    exact absurd ⟨hbelow, hnodup⟩ h

theorem exec_beginMap_rejected {map : List Byte} (h : suppliedMap map = none) (nb nl nd br : Byte) {s : State}
    (hfault : s.fault = none) :
    exec (.beginMap nb nl nd br map) s = .next (faulted (.beginMap nb nl nd br map) .dmapInvalid s) := by
  simp only [exec, execBeginMap, h]
  exact perform_raise hfault rfl

theorem exec_beginMap_accepted {map : List Byte} {dmap : Vector Position 8} (h : suppliedMap map = some dmap)
    (nb nl nd br : Byte) (s : State) :
    exec (.beginMap nb nl nd br map) s = perform (.beginMap nb nl nd br map) s (begin_ nb nl nd br dmap) := by
  simp only [exec, execBeginMap, h]

/-- Settles O32: by whether the map is accepted, and then as BEGIN. -/
theorem beginMapChecksThenBegins : Obligations.BeginMapChecksThenBegins := by
  intro s nb nl nd br map hfault hlen
  refine ⟨rfl, fun hinvalid => exec_beginMap_rejected (suppliedMap_eq_none hinvalid) nb nl nd br hfault,
    fun hbelow hnodup dmap hentry => ?_⟩
  rw [exec_beginMap_accepted (suppliedMap_of_permutation hlen hbelow hnodup hentry)]
  exact ⟨fun hframe => perform_ok hfault (begin_completes hfault hframe nb nl nd br dmap),
    fun hframe => perform_begin_nested hfault hframe _ nb nl nd br dmap⟩

end Sys2Proof.Machine
end

section
/-! Proofs of the sequencer's laws (O47, O53). That a completed request keeps the lines is checked against the writes it is made of; that TEST 0 undoes TEST 1 is the auto-increment write of O52, whose bytes cover every position below M. -/

namespace Sys2Proof.Machine

/-! ### The lines across a request (R170) -/

/-- The requests R170 speaks of stand behind the INIT check. -/
theorem exec_display {i : Instr} (hi : isDisplay i = true) : ∃ body, ∀ s, exec i s = sequenced i s body := by
  cases i with
  | displayOff | clear | setBrightness _ | test _ => exact ⟨_, fun _ => rfl⟩
  | showByteBinary _ _ | showChar _ _ _ | showInt8 _ _ _ | showInt12 _ _ _ | showInt16 _ _ _ =>
    exact ⟨_, fun _ => rfl⟩
  | showLedsBinary _ _ | setLed _ _ | setDp _ _ | readButtons => exact ⟨_, fun _ => rfl⟩
  | _ => cases hi

theorem exec_display_uninit {i : Instr} (hi : isDisplay i = true) {s : State} (hfault : s.fault = none)
    (hinit : s.init = false) : exec i s = .next (faulted i .notInitialized s) := by
  obtain ⟨body, hexec⟩ := exec_display hi
  rw [hexec, sequenced_uninit hfault hinit]

theorem State.Write.sameLines {s t : State} (h : State.Write s t) : s.SameLines t := by
  cases h <;> exact ⟨rfl, rfl, rfl⟩

theorem State.SameLines.refl (s : State) : s.SameLines s := ⟨rfl, rfl, rfl⟩

theorem State.SameLines.trans {s t u : State} (h : s.SameLines t) (k : t.SameLines u) : s.SameLines u := by
  obtain ⟨hpins, hframe, hdir⟩ := h
  obtain ⟨hpins', hframe', hdir'⟩ := k
  exact ⟨hpins'.trans hpins, hframe'.trans hframe, hdir'.trans hdir⟩

theorem State.Writes.sameLines {s t : State} (h : s.Writes t) : s.SameLines t :=
  h.keeps (P := s.SameLines) (fun _ _ hwrite hs => hs.trans hwrite.sameLines) (.refl s)

theorem exec_display_sameLines {i : Instr} (hi : isDisplay i = true) {s t : State} (h : exec i s = .next t)
    (ht : t.fault = none) : s.SameLines t := by
  by_cases htest : ∃ enable, i = .test enable
  · obtain ⟨enable, rfl⟩ := htest
    obtain ⟨-, rfl⟩ := exec_test_completes h ht
    exact ⟨rfl, rfl, rfl⟩
  · have htest' := not_exists.mp htest
    rcases exec_responds_or_writes (bypasses_eq_false_of_isDisplay hi htest') (isBegin_eq_false_of_isDisplay hi) htest'
      h ht with ⟨v, rfl⟩ | ⟨-, hwrites⟩
    · exact ⟨rfl, rfl, rfl⟩
    · exact hwrites.sameLines

theorem exec_begin_lines {i : Instr} (hi : isBegin i = true) {s t : State} (h : exec i s = .next t)
    (ht : t.fault = none) : t.inFrame = s.inFrame ∧ t.dioDir = .out := by
  obtain ⟨nb, nl, nd, br, dmap, u, -, hclear, hbright⟩ := exec_begin_completes hi h ht
  have hwrites : State.Writes _ t := (writing_clearAll _ _ _ hclear).trans (writing_brightness br _ _ _ hbright)
  obtain ⟨-, hframe, hdir⟩ := hwrites.sameLines
  exact ⟨hframe, hdir⟩

/-- Settles O47: no write touches the lines, an open frame left open included (R170, log 26); BEGIN has set the direction before its writes. -/
theorem sequencerKeepsFrameAndDirection : Obligations.SequencerKeepsFrameAndDirection := by
  intro i s t hfault h
  refine ⟨fun hi hinit => ?_, fun hi ht => ?_, fun hi ht => exec_begin_lines hi h ht⟩
  · cases (exec_display_uninit hi hfault hinit).symm.trans h
    rfl
  · obtain ⟨-, hframe, hdir⟩ := exec_display_sameLines hi h ht
    exact ⟨hframe, hdir⟩

/-! ### TEST 1, then TEST 0 (R177, R266) -/

theorem exec_test_of_ready {s : State} (hs : s.Ready) (enable : Bool) :
    exec (.test enable) s = .next (s.emits (Shape.auto (testBytes enable s)).events) := by
  have ⟨hfault, hinit, _⟩ := hs
  refine sequenced_ok hfault hinit ?_
  rw [autoWrite_eq]
  exact framed_of_ready hs _

/-- After TEST 0 the far end holds the shadow's bytes of every digit whose position is below M, whatever it held before. -/
theorem test_false_restores {s : State} (hmap : Permutation s.dmap) {l : Index}
    (hl : (s.dmap[l]).toNat < max s.numDigits.val s.numLeds.val) :
    (s.emits (Shape.auto (testBytes false s)).events).MirrorsDigit l ∧
    (s.emits (Shape.auto (testBytes false s)).events).MirrorsLed l := by
  have hdigits := s.numDigits.isLt
  have hleds := s.numLeds.isLt
  have hlen := testBytes_length false s
  obtain ⟨hdig, hledm⟩ := testBytes_restore hmap l
  have hdigit : (s.emits (Shape.auto (testBytes false s)).events).Holds (2 * (s.dmap[l]).toNat) s.dig[l] :=
    State.holds_auto (by omega) hdig (fun hout => by omega) (by omega)
  have hled : (s.emits (Shape.auto (testBytes false s)).events).Holds (2 * (s.dmap[l]).toNat + 1)
      (ledByte (s.ledm.getLsbD l.val)) := State.holds_auto (by omega) hledm (fun hout => by omega) (by omega)
  exact ⟨hdigit, hled⟩

/-- Settles O53: TEST 1 leaves all but the wire, and TEST 0 then restores from the same shadow. -/
theorem testRoundTripRestores : Obligations.TestRoundTripRestores := by
  intro s hs hconfig
  obtain ⟨-, hconfigured⟩ := hconfig
  obtain ⟨-, hmap⟩ := hconfigured hs.init
  obtain ⟨w, hlit⟩ : ∃ w, exec (.test true) s = .next { s with wire := w } := ⟨_, exec_test_of_ready hs true⟩
  exact ⟨_, _, hlit, exec_test_of_ready (s := { s with wire := w }) hs false, rfl,
    fun l hl => test_false_restores (s := { s with wire := w }) hmap hl⟩

end Sys2Proof.Machine
end

section
/-! Proof of the latched stop (O8): FAULT is looked at before a request's body and before the request stream, so what either would do plays no part. -/

namespace Sys2Proof.Machine

/-- R234: a request is refused whatever its body would do. -/
theorem exec_request_latched {i : Instr} (hi : isRequest i = true) {s : State} {r : FaultRecord}
    (hfault : s.fault = some r) : exec i s = .fault (.latched r.code) := by
  obtain ⟨body, -, hexec⟩ := exec_request hi
  rw [hexec, perform_latched hfault]

/-- R234: the block stops whatever the request stream holds, an illegal or incomplete request too. -/
theorem step_latched {s : State} {r : FaultRecord} (hpending : s.wire.pending = []) (hfault : s.fault = some r) :
    step s = .fault (.latched r.code) := by
  rw [step, fetch_latched hpending hfault]

/-- Settles O8: every host request is run by `perform`, BEGIN and BEGIN_MAP too, and `perform` and `fetch` both stop at a FAULT that is set, with its code (the stop named latched, log 3). -/
theorem faultedBlockRefusesEveryRequest : Obligations.FaultedBlockRefusesEveryRequest := by
  intro s r hfault
  exact ⟨fun i hi => exec_request_latched hi hfault, fun hpending => step_latched hpending hfault⟩

end Sys2Proof.Machine
end

section
/-! Proofs of the statements about reset (O54, O55). Neither PINS_CFG nor INIT is set there: the requests that check one of them stop at that check, and those that complete check neither, BEGIN and BEGIN_MAP setting both before their first frame. -/

namespace Sys2Proof.Machine

/-! ### The values of reset (R260, R80) -/

/-- Settles O54: by the fields of `State.reset`; the shadow bytes and the far end's bytes are the entries of constant vectors. -/
theorem resetStartsUninitialised : Obligations.ResetStartsUninitialised :=
  ⟨rfl, rfl, rfl, fun i => Vector.getElem_replicate i.isLt, rfl, rfl, rfl,
    fun a => Vector.getElem_replicate a.isLt, rfl, rfl⟩

/-! ### What a request does at reset (R261) -/

/-- R110: every transport request checks PINS_CFG first. -/
theorem exec_transport_unconfigured {i : Instr} (hi : isTransport i = true) {s : State} (hfault : s.fault = none)
    (hpins : s.pinsCfg = false) : exec i s = .next (faulted i .notInitialized s) := by
  cases i with
  | tStart =>
    obtain ⟨-, hunconfigured, -⟩ := tStartOpensATransaction s hfault
    exact hunconfigured hpins
  | tStop =>
    obtain ⟨-, hunconfigured, -⟩ := tStopClosesATransaction s hfault
    exact hunconfigured hpins
  | tWrbyte b =>
    obtain ⟨-, hunconfigured, -⟩ := tWrbyteShiftsAByteOut s b hfault
    exact hunconfigured hpins
  | tRdbyte =>
    obtain ⟨-, hunconfigured, -⟩ := tRdbyteShiftsADrawIn s hfault
    exact hunconfigured hpins
  | tWrcmd b =>
    obtain ⟨-, hunconfigured, -⟩ := tWrcmdSendsAOneByteTransaction s b hfault
    exact hunconfigured hpins
  | tDioIn =>
    obtain ⟨-, -, hunconfigured, -⟩ := tDioRequestsSetTheDirection s hfault
    exact (hunconfigured hpins).left
  | tDioOut =>
    obtain ⟨-, -, hunconfigured, -⟩ := tDioRequestsSetTheDirection s hfault
    exact (hunconfigured hpins).right
  | _ => cases hi

/-- R150: behind the index check alone, an index below 8 is all that a request needs. -/
theorem perform_onIndex {s : State} (hfault : s.fault = none) {k : Byte} (hk : k.toNat < 8) (i : Instr)
    (f : Index → State → State) :
    perform i s (onIndex k fun k s => .ok () (f k s)) = .next (f ⟨k.toNat, hk⟩ s) :=
  perform_ok hfault (onIndex_of_lt (k := ⟨k.toNat, hk⟩) rfl _ s)

theorem exec_rGetledm {s : State} (hfault : s.fault = none) : exec .rGetledm s = .next (s.respond s.ledm) :=
  perform_respond hfault .rGetledm s.ledm

theorem exec_beginId_completes {s : State} (hfault : s.fault = none) (hframe : s.inFrame = false)
    (nb nl nd br : Byte) : exec (.beginId nb nl nd br) s = .next (beginDone nb nl nd br identityMap s) :=
  perform_ok hfault (begin_completes hfault hframe nb nl nd br identityMap)

theorem exec_beginMap_completes {map : List Byte} {dmap : Vector Position 8} (hmap : suppliedMap map = some dmap)
    {s : State} (hfault : s.fault = none) (hframe : s.inFrame = false) (nb nl nd br : Byte) :
    exec (.beginMap nb nl nd br map) s = .next (beginDone nb nl nd br dmap s) :=
  (exec_beginMap_accepted hmap nb nl nd br s).trans
    (perform_ok hfault (begin_completes hfault hframe nb nl nd br dmap))

/-- Settles O55: the waiting step is that of log 1, for a host that has presented nothing; the other requests by family, each by the check it stops at or by the next state it completes with. -/
theorem onlySomeRequestsCompleteAtReset : Obligations.OnlySomeRequestsCompleteAtReset := by
  refine ⟨step_incomplete rfl rfl rfl, fun i hi => ?_, fun i hi => ?_⟩
  · rcases hi with htransport | hdisplay | ⟨l, rfl⟩
    · exact exec_transport_unconfigured htransport rfl rfl
    · exact exec_display_uninit hdisplay rfl rfl
    · obtain ⟨-, huninit, -⟩ := rPhysAnswersThePosition .reset l rfl
      exact huninit rfl
  · rcases hi with ⟨x, rfl⟩ | ⟨x, rfl⟩ | ⟨k, b, hk, rfl⟩ | ⟨k, hk, rfl⟩ | ⟨k, on, hk, rfl⟩ | ⟨k, on, hk, rfl⟩ | rfl |
      ⟨nb, nl, nd, br, rfl⟩ | ⟨nb, nl, nd, br, map, hlen, hbelow, hnodup, rfl⟩
    · exact ⟨_, exec_sEncode rfl x, rfl⟩
    · exact ⟨_, exec_sRawenc rfl x, rfl⟩
    · exact ⟨_, perform_onIndex (s := .reset) rfl hk (.rSetdig k b) fun k s => s.setDig k b, rfl⟩
    · exact ⟨_, perform_onIndex (s := .reset) rfl hk (.rGetdig k) fun k s => s.respond s.dig[k], rfl⟩
    · exact ⟨_, perform_onIndex (s := .reset) rfl hk (.rSetdp k on) fun k s => s.setDig k (mergeDp s.dig[k] on), rfl⟩
    · exact ⟨_, perform_onIndex (s := .reset) rfl hk (.rSetled k on) fun k s => s.setLed k on, rfl⟩
    · exact ⟨_, exec_rGetledm rfl, rfl⟩
    · exact ⟨_, exec_beginId_completes rfl rfl nb nl nd br, rfl⟩
    · obtain ⟨dmap, hmap⟩ := suppliedMap_isSome hlen hbelow hnodup
      exact ⟨_, exec_beginMap_completes hmap rfl rfl nb nl nd br, rfl⟩

end Sys2Proof.Machine
end
